-- ==== Sys2Proof/Word.lean ====
section
/-! DEFINITION. The word types of the block (spec 00_scope.md R9, R10): bit 0 is the least significant bit. -/

namespace Sys2Proof

/-- One byte, `u8` of R10. -/
abbrev Byte := BitVec 8

/-- `u16` of R10: USB request fields, bus words, reply lengths. -/
abbrev Half := BitVec 16

/-- `i32` of R10: a 32-bit two's-complement register, read as a number by `BitVec.toInt`. -/
abbrev I32 := BitVec 32

end Sys2Proof
end

