-- ==== Sys2Proof/Config.lean ====
section
/-! DEFINITION. The implementation parameters of R6, and the free values of the model.

The parameters the source fixes are constants.
Every other parameter is a field of `Config`, and `State` carries one `Config` that no step changes, so a
statement about every state is a statement about every value of every parameter. -/

namespace Sys2Proof

/-- `EP0_MPS` (R6, source §6): control endpoint maximum packet size in bytes. -/
def EP0_MPS : Nat := 64

/-- `NUM_CONFIGURATIONS` (R6, source §6). -/
def NUM_CONFIGURATIONS : Byte := 1

/-- `CONFIG_VALUE` (R6, source §4.5): the one accepted configuration value. -/
def CONFIG_VALUE : Half := 1

/-- `BCD_DEVICE` (R6, source §6): device release. -/
def BCD_DEVICE : Half := 0x0001

/-- `PULSES_PER_DETENT` (R6, source §4.4): raw pulses per detent. -/
def PULSES_PER_DETENT : Int := 4

/-- The overridable and the OPEN parameters of R6, under the spec's names. -/
structure Config where
  /-- idVendor, OPEN (D21) -/
  VID : Half
  /-- idProduct, OPEN (D21) -/
  PID : Half
  /-- manufacturer text as UTF-16 code units, OPEN (D22) -/
  MFR_STRING : List Half
  /-- product text as UTF-16 code units, OPEN (D22) -/
  PRODUCT_STRING : List Half
  /-- the one language ID (D22) -/
  LANGID : Half
  /-- bcdUSB (D20) -/
  BCD_USB : Half
  /-- bcdHID (D20) -/
  BCD_HID : Half
  /-- configuration bmAttributes (D20) -/
  CFG_ATTRIBUTES : Byte
  /-- configuration bMaxPower (D20) -/
  CFG_MAX_POWER : Byte
  /-- OUT endpoint bEndpointAddress (D20) -/
  EP_OUT_ADDR : Byte
  /-- IN endpoint bEndpointAddress (D20) -/
  EP_IN_ADDR : Byte
  /-- interrupt endpoints wMaxPacketSize (D20) -/
  EP_MPS : Half
  /-- interrupt endpoints bInterval (D20) -/
  EP_INTERVAL : Byte
  /-- the HID report descriptor byte string (D23) -/
  REPORT_DESC : List Byte
  /-- send a zero-length packet to end a short reply of whole packets (D15) -/
  ZLP_ENABLE : Bool
  /-- a SETUP arriving mid-transfer may abort the transfer (D18) -/
  SETUP_ABORTS : Bool
  /-- entry `a` says whether the serial peripheral understands register address `a`, OPEN (D32) -/
  BUS_ADDR_SET : Vector Bool 128
  /-- the word of the no-op transaction that collects a read result, OPEN (D32) -/
  BUS_NOP_WORD : Half
  /-- whether the transition order 00, 01, 11, 10 of the knob's phases gives positive pulses, OPEN (D28) -/
  ROT_DIR : Bool
  /-- period of the report-ready event, OPEN; no rule depends on it (D29) -/
  REPORT_PERIOD : Nat
  /-- serial clock frequency, OPEN; no rule depends on it (D30) -/
  SCK_HZ : Nat
  deriving DecidableEq, Repr

/-- The defaults of R6, and for the OPEN parameters the placeholders of the test vectors
(assumption 3: no statement rests on a placeholder). `REPORT_DESC` is the 27-byte default of R272. -/
def Config.defaults : Config where
  VID := 0x1234
  PID := 0x5678
  MFR_STRING := [0x4D, 0x46, 0x52]
  PRODUCT_STRING := [0x50, 0x41, 0x4E, 0x45, 0x4C]
  LANGID := 0x0409
  BCD_USB := 0x0200
  BCD_HID := 0x0111
  CFG_ATTRIBUTES := 0x80
  CFG_MAX_POWER := 0x32
  EP_OUT_ADDR := 0x01
  EP_IN_ADDR := 0x81
  EP_MPS := 64
  EP_INTERVAL := 1
  REPORT_DESC :=
    [0x06, 0x00, 0xFF, 0x09, 0x01, 0xA1, 0x01, 0x15, 0x00, 0x27, 0x3F, 0x42, 0x0F, 0x00] ++
    [0x75, 0x14, 0x95, 0x02, 0x09, 0x01, 0x81, 0x02, 0x09, 0x01, 0x91, 0x02, 0xC0]
  ZLP_ENABLE := true
  SETUP_ABORTS := false
  BUS_ADDR_SET := Vector.replicate 128 true
  BUS_NOP_WORD := 0x0000
  ROT_DIR := true
  REPORT_PERIOD := 0
  SCK_HZ := 0

/-- A free value (R301): the `u16` that an `XFER` started while the bus is busy returns.
Its argument is the counter `draws` of the state, so each draw is a fresh value; it has no body, so nothing is known of it
(assumption 4). -/
opaque Config.freeWord : Nat → BitVec 16

/-- A free value (R306): the five bytes of the report that a detent hook sends when the oracle of the state names no
command of its own (assumption 8). -/
opaque Config.freeReport : Nat → Vector (BitVec 8) 5

end Sys2Proof
end

