-- ==== Sys2Proof/Syntax.lean ====
section
/-! DEFINITION. The operations of the block, one constructor per row of the opcode table, and the types of their operands. -/

namespace Sys2Proof

/-- The eleven Signal Flags of R22, one per event source. -/
inductive Flag where
  | usbPower      -- FL_USB_POWER
  | setup         -- FL_SETUP
  | ep0Started    -- FL_EP0_STARTED
  | ep0Ended      -- FL_EP0_ENDED
  | ep0DataDone   -- FL_EP0_DATADONE
  | epInStarted   -- FL_EPIN_STARTED
  | epInEnded     -- FL_EPIN_ENDED
  | epOut         -- FL_EPOUT
  | key           -- FL_KEY
  | rotReport     -- FL_ROT_REPORT
  | busDone       -- FL_BUS_DONE
  deriving DecidableEq, Repr

/-- The operand of `ROT_PULSE` (R170): +1 or -1. -/
inductive Pulse where
  | plus
  | minus
  deriving DecidableEq, Repr

/-- The endpoint operand of `EP_IN_SEND` (R230): 0, or `EP_IN_ADDR`. -/
inductive Endpoint where
  | ep0
  | epIn
  deriving DecidableEq, Repr

/-- A decoded USB Setup Request (R26, R80).
The fields `recipient`, `type` and `dir` of R26 are bits of `bmRequestType` (R81) and are views of it (Decode.lean). -/
structure Request where
  bmRequestType : Byte
  bRequest : Byte
  wValue : Half
  wIndex : Half
  wLength : Half
  deriving DecidableEq, Repr

/-- The operations of the block: rows of the request map (R87) with the fields of the SETUP packet they leave open, the
two bus message classes (R89), and the operations without a binary encoding (R98). -/
inductive Instr where
  | setAddress (recipient : BitVec 5) (wValue wIndex wLength : Half)
  | setConfiguration (recipient : BitVec 5) (wValue wIndex wLength : Half)
  | clearFeature (recipient : BitVec 5) (wValue wIndex wLength : Half)
  | setIdle (recipient : BitVec 5) (wValue wIndex wLength : Half)
  | getDescriptorDevice (descIndex : Byte) (wIndex wLength : Half)
  | getDescriptorConfiguration (descIndex : Byte) (wIndex wLength : Half)
  | getDescriptorString (descIndex : Byte) (wIndex wLength : Half)
  | getDescriptorReport (descIndex : Byte) (wIndex wLength : Half)
  | getDescriptorDeviceQualifier (descIndex : Byte) (wIndex wLength : Half)
  /-- `recipient` is bit 0 of bmRequestType: 0 device, 1 interface -/
  | getDescriptorOther (recipient : BitVec 1) (descType descIndex : Byte) (wIndex wLength : Half)
  | unmatched (bmRequestType bRequest : Byte) (wValue wIndex wLength : Half)
  | busWrite (addr : BitVec 7) (data : Byte)
  /-- the request word of a read; R142 sends `data` as 0 -/
  | busRead (addr : BitVec 7) (data : Byte)
  | xfer (w : Half)
  | flagSet (f : Flag)
  | flagTac (f : Flag)
  | rotPulse (d : Pulse)
  | rotSample
  | rotAccumulate (p : I32)
  | rotHasReport
  | epInSend (ep : Endpoint) (bytes : List Byte)
  | armOut
  deriving DecidableEq, Repr

end Sys2Proof
end

