-- ==== Sys2Proof/WellFormed.lean ====
section
/-! DEFINITION. Which operations are ones the spec's encodings and interfaces admit.

The checks are written from the prose of the rules, field by field, and not from the mask table the decoder uses. -/

namespace Sys2Proof

/-- R81, R87 rows 1 to 4 in words: a host-to-device (bit 7 clear) request of one of the four kinds the block
implements, whatever its recipient. -/
def handledOut (bmRequestType bRequest : Byte) : Bool :=
  let kind := bmRequestType.extractLsb' 5 3
  (kind == 0 && (bRequest == 0x05 || bRequest == 0x09 || bRequest == 0x01)) || (kind == 1 && bRequest == 0x0A)

/-- R250: a GET_DESCRIPTOR to the device or to an interface. -/
def handledIn (bmRequestType bRequest : Byte) : Bool :=
  (bmRequestType == 0x80 || bmRequestType == 0x81) && bRequest == 0x06

/-- The well-formed operations.
GET_DESCRIPTOR_OTHER carries only types no earlier row takes (R251, R259).
UNMATCHED carries only requests no earlier row takes (R224).
A read request's data byte is 0 (R142).
A send carries at most the bytes its staging buffer holds (R60, R230). -/
def Instr.wf : Instr → Bool
  | .setAddress _ _ _ _ => true
  | .setConfiguration _ _ _ _ => true
  | .clearFeature _ _ _ _ => true
  | .setIdle _ _ _ _ => true
  | .getDescriptorDevice _ _ _ => true
  | .getDescriptorConfiguration _ _ _ => true
  | .getDescriptorString _ _ _ => true
  | .getDescriptorReport _ _ _ => true
  | .getDescriptorDeviceQualifier _ _ _ => true
  | .getDescriptorOther recipient descType _ _ _ =>
    if recipient == 0 then !(descType == 0x01 || descType == 0x02 || descType == 0x03 || descType == 0x06)
    else !(descType == 0x22)
  | .unmatched bm br _ _ _ => !handledOut bm br && !handledIn bm br
  | .busWrite _ _ => true
  | .busRead _ data => data == 0
  | .xfer _ => true
  | .flagSet _ => true
  | .flagTac _ => true
  | .rotPulse _ => true
  | .rotSample => true
  | .rotAccumulate _ => true
  | .rotHasReport => true
  | .epInSend .ep0 bytes => decide (bytes.length ≤ 64)
  | .epInSend .epIn bytes => decide (bytes.length ≤ 5)
  | .armOut => true

end Sys2Proof
end

