-- ==== Sys2Proof/Decode.lean ====
section
/-! DEFINITION. The decoder of the two binary formats that select operations (the SETUP packet, R80 to R87, and the bus
message, R88, R89), and the encoder written from the same tables. -/

namespace Sys2Proof

/-! ### Byte order and fields -/

/-- `le16(b0, b1)` of R10: the first byte is the low byte. -/
def le16 (b0 b1 : Byte) : Half := b1 ++ b0

/-- The low byte of a half word, `v[7:0]`. -/
def lowByte (v : Half) : Byte := v.extractLsb' 0 8

/-- The high byte of a half word, `v[15:8]`. -/
def highByte (v : Half) : Byte := v.extractLsb' 8 8

/-- `le16_bytes(v)` of R10. -/
def le16Bytes (v : Half) : List Byte := [lowByte v, highByte v]

/-- `req.recipient` (R81): `bmRequestType[4:0]`. -/
def Request.recipient (r : Request) : BitVec 5 := r.bmRequestType.extractLsb' 0 5

/-- `req.type` (R81): `bmRequestType[6:5]`. -/
def Request.type (r : Request) : BitVec 2 := r.bmRequestType.extractLsb' 5 2

/-- `req.dir` (R81): `bmRequestType[7]`, true is device to host. -/
def Request.dir (r : Request) : Bool := r.bmRequestType.getLsbD 7

/-- `desc_type` of a GET_DESCRIPTOR (R83). -/
def Request.descType (r : Request) : Byte := highByte r.wValue

/-- `desc_index` of a GET_DESCRIPTOR (R83). -/
def Request.descIndex (r : Request) : Byte := lowByte r.wValue

/-- The decode of the eight SETUP bytes (R80). -/
def Request.ofBytes (b : Vector Byte 8) : Request where
  bmRequestType := b[0]
  bRequest := b[1]
  wValue := le16 b[2] b[3]
  wIndex := le16 b[4] b[5]
  wLength := le16 b[6] b[7]

/-- The eight SETUP bytes of a request (R80). -/
def Request.toBytes (r : Request) : Vector Byte 8 :=
  #v[r.bmRequestType, r.bRequest, lowByte r.wValue, highByte r.wValue,
     lowByte r.wIndex, highByte r.wIndex, lowByte r.wLength, highByte r.wLength]

/-! ### The request map -/

/-- The setup key K of R86. -/
def Request.key (r : Request) : BitVec 32 := r.wValue ++ r.bRequest ++ r.bmRequestType

/-- The eleven rows of the request map (R87). -/
inductive RequestRow where
  | setAddress
  | setConfiguration
  | clearFeature
  | setIdle
  | getDescriptorDevice
  | getDescriptorConfiguration
  | getDescriptorString
  | getDescriptorReport
  | getDescriptorDeviceQualifier
  | getDescriptorOther
  | unmatched
  deriving DecidableEq, Repr

/-- One row of the request map: it takes a key K with `K & mask = pattern`. -/
structure MapRow where
  row : RequestRow
  pattern : BitVec 32
  mask : BitVec 32
  deriving DecidableEq, Repr

/-- The request map of R87, in its order. -/
def requestMap : List MapRow :=
  [⟨.setAddress, 0x00000500, 0x0000FFE0⟩,
   ⟨.setConfiguration, 0x00000900, 0x0000FFE0⟩,
   ⟨.clearFeature, 0x00000100, 0x0000FFE0⟩,
   ⟨.setIdle, 0x00000A20, 0x0000FFE0⟩,
   ⟨.getDescriptorDevice, 0x01000680, 0xFF00FFFF⟩,
   ⟨.getDescriptorConfiguration, 0x02000680, 0xFF00FFFF⟩,
   ⟨.getDescriptorString, 0x03000680, 0xFF00FFFF⟩,
   ⟨.getDescriptorReport, 0x22000681, 0xFF00FFFF⟩,
   ⟨.getDescriptorDeviceQualifier, 0x06000680, 0xFF00FFFF⟩,
   ⟨.getDescriptorOther, 0x00000680, 0x0000FFFE⟩,
   ⟨.unmatched, 0x00000000, 0x00000000⟩]

/-- The first row of a map that takes the key (R87, R208); the request map's last row takes every key, so the answer for
an exhausted list is never used by `Request.row`. -/
def firstRow (K : BitVec 32) : List MapRow → RequestRow
  | [] => .unmatched
  | m :: rest => if K &&& m.mask = m.pattern then m.row else firstRow K rest

/-- The row that serves a request (R208). -/
def Request.row (r : Request) : RequestRow := firstRow r.key requestMap

/-- The operation a row stands for, its operands taken from the request's fields (R95). -/
def Request.toInstr (r : Request) : RequestRow → Instr
  | .setAddress => .setAddress r.recipient r.wValue r.wIndex r.wLength
  | .setConfiguration => .setConfiguration r.recipient r.wValue r.wIndex r.wLength
  | .clearFeature => .clearFeature r.recipient r.wValue r.wIndex r.wLength
  | .setIdle => .setIdle r.recipient r.wValue r.wIndex r.wLength
  | .getDescriptorDevice => .getDescriptorDevice r.descIndex r.wIndex r.wLength
  | .getDescriptorConfiguration => .getDescriptorConfiguration r.descIndex r.wIndex r.wLength
  | .getDescriptorString => .getDescriptorString r.descIndex r.wIndex r.wLength
  | .getDescriptorReport => .getDescriptorReport r.descIndex r.wIndex r.wLength
  | .getDescriptorDeviceQualifier => .getDescriptorDeviceQualifier r.descIndex r.wIndex r.wLength
  | .getDescriptorOther =>
    .getDescriptorOther (r.bmRequestType.extractLsb' 0 1) r.descType r.descIndex r.wIndex r.wLength
  | .unmatched => .unmatched r.bmRequestType r.bRequest r.wValue r.wIndex r.wLength

/-- The operation a Setup Request selects (R208): always one, since the last row takes every key. -/
def decodeRequest (r : Request) : Instr := r.toInstr r.row

/-! ### The bus message -/

/-- The class of a bus message and its fields (R88, R89). -/
def decodeBusWord (w : Half) : Instr :=
  if w.getLsbD 15 then .busRead (w.extractLsb' 8 7) (lowByte w) else .busWrite (w.extractLsb' 8 7) (lowByte w)

/-- A bus message from its fields (R88): `{rw, addr, data}`. -/
def busWord (rw : BitVec 1) (addr : BitVec 7) (data : Byte) : Half := rw ++ addr ++ data

/-! ### The decoder -/

/-- Why bytes are no operation: R97 gives a SETUP packet 8 bytes and a bus message 2, and no other length. -/
inductive DecodeError where
  | badLength (n : Nat)
  deriving DecidableEq, Repr

/-- What the decoder answers. -/
inductive Decoded where
  | instr (i : Instr)
  | rejected (e : DecodeError)
  deriving DecidableEq, Repr

/-- The decoder, total on any bytes.
Eight bytes are a SETUP packet and two bytes are a bus message, its first byte on the wire first (R64, R97). -/
def decode : List Byte → Decoded
  | [b0, b1] => .instr (decodeBusWord (b0 ++ b1))
  | [b0, b1, b2, b3, b4, b5, b6, b7] => .instr (decodeRequest (.ofBytes #v[b0, b1, b2, b3, b4, b5, b6, b7]))
  | bs => .rejected (.badLength bs.length)

/-! ### The encoder -/

/-- bmRequestType of a host-to-device request (R81): direction 0, then the type, then the recipient. -/
def outRequestType (type : BitVec 2) (recipient : BitVec 5) : Byte := (0 : BitVec 1) ++ type ++ recipient

/-- A GET_DESCRIPTOR request (R83, R84, R250). -/
def getDescriptorRequest (recipient : BitVec 1) (descType descIndex : Byte) (wIndex wLength : Half) : Request :=
  ⟨(0x40 : BitVec 7) ++ recipient, 0x06, le16 descIndex descType, wIndex, wLength⟩

/-- The Setup Request an operation stands for, if it is a row of the request map. -/
def Instr.request : Instr → Option Request
  | .setAddress rc v i l => some ⟨outRequestType 0 rc, 0x05, v, i, l⟩
  | .setConfiguration rc v i l => some ⟨outRequestType 0 rc, 0x09, v, i, l⟩
  | .clearFeature rc v i l => some ⟨outRequestType 0 rc, 0x01, v, i, l⟩
  | .setIdle rc v i l => some ⟨outRequestType 1 rc, 0x0A, v, i, l⟩
  | .getDescriptorDevice x i l => some (getDescriptorRequest 0 0x01 x i l)
  | .getDescriptorConfiguration x i l => some (getDescriptorRequest 0 0x02 x i l)
  | .getDescriptorString x i l => some (getDescriptorRequest 0 0x03 x i l)
  | .getDescriptorReport x i l => some (getDescriptorRequest 1 0x22 x i l)
  | .getDescriptorDeviceQualifier x i l => some (getDescriptorRequest 0 0x06 x i l)
  | .getDescriptorOther rc t x i l => some (getDescriptorRequest rc t x i l)
  | .unmatched bm br v i l => some ⟨bm, br, v, i, l⟩
  | .busWrite _ _ => none
  | .busRead _ _ => none
  | .xfer _ => none
  | .flagSet _ => none
  | .flagTac _ => none
  | .rotPulse _ => none
  | .rotSample => none
  | .rotAccumulate _ => none
  | .rotHasReport => none
  | .epInSend _ _ => none
  | .armOut => none

/-- The bus word an operation stands for, if it is a bus message class (R141, R142). -/
def Instr.busMessage : Instr → Option Half
  | .busWrite a d => some (busWord 0 a d)
  | .busRead a d => some (busWord 1 a d)
  | .setAddress _ _ _ _ => none
  | .setConfiguration _ _ _ _ => none
  | .clearFeature _ _ _ _ => none
  | .setIdle _ _ _ _ => none
  | .getDescriptorDevice _ _ _ => none
  | .getDescriptorConfiguration _ _ _ => none
  | .getDescriptorString _ _ _ => none
  | .getDescriptorReport _ _ _ => none
  | .getDescriptorDeviceQualifier _ _ _ => none
  | .getDescriptorOther _ _ _ _ _ => none
  | .unmatched _ _ _ _ _ => none
  | .xfer _ => none
  | .flagSet _ => none
  | .flagTac _ => none
  | .rotPulse _ => none
  | .rotSample => none
  | .rotAccumulate _ => none
  | .rotHasReport => none
  | .epInSend _ _ => none
  | .armOut => none

/-- The bytes of an operation that has a binary encoding; `none` for the opcode table's unencoded rows. -/
def encode (i : Instr) : Option (List Byte) :=
  match i.request, i.busMessage with
  | some r, _ => some r.toBytes.toList
  | none, some w => some [highByte w, lowByte w]
  | none, none => none

/-! ### The opcode table's words -/

/-- The eight bytes of a number, the first byte lowest (the numbering of R86's key). -/
def bytesOfNat (w : Nat) : Vector Byte 8 :=
  #v[BitVec.ofNat 8 w, BitVec.ofNat 8 (w / 2 ^ 8), BitVec.ofNat 8 (w / 2 ^ 16), BitVec.ofNat 8 (w / 2 ^ 24),
     BitVec.ofNat 8 (w / 2 ^ 32), BitVec.ofNat 8 (w / 2 ^ 40), BitVec.ofNat 8 (w / 2 ^ 48), BitVec.ofNat 8 (w / 2 ^ 56)]

/-- The bytes of a word of the opcode table: a 16-bit word is a bus message, its high byte first (R64), and a word of 17
to 64 bits is the beginning of a SETUP packet, its low byte first, with zero bytes after it.
Other widths are no operation's. -/
def tableBytes (nbits w : Nat) : List Byte :=
  if nbits = 16 then [highByte (BitVec.ofNat 16 w), lowByte (BitVec.ofNat 16 w)]
  else if 16 < nbits ∧ nbits ≤ 64 then (bytesOfNat (w % 2 ^ nbits)).toList
  else []

/-- The operation the decoder reads from a word of the opcode table. -/
def decodeTableWord (nbits w : Nat) : Option Instr :=
  match decode (tableBytes nbits w) with
  | .instr i => some i
  | .rejected _ => none

end Sys2Proof
end

