-- ==== Sys2Proof/Machine/State.lean ====
section
/-! DEFINITION. The state of the block: every register of R42, the buffers of R60, where the sequencer stands, what the
environment owes, and the plain-data lists that say what the environment and the hooks will do. -/

namespace Sys2Proof.Machine

/-! ### Register types -/

/-- The eleven Signal Flags of R22, one bit each. -/
structure Flags where
  usbPower : Bool
  setup : Bool
  ep0Started : Bool
  ep0Ended : Bool
  ep0DataDone : Bool
  epInStarted : Bool
  epInEnded : Bool
  epOut : Bool
  key : Bool
  rotReport : Bool
  busDone : Bool
  deriving DecidableEq, Repr

/-- `ctl_state` (R23), in the order of its codes 0 to 4. -/
inductive CtlState where
  | idle
  | setupDecoded
  | dataIn
  | status
  | stalled
  deriving DecidableEq, Repr

/-- `ctl_phase` (R24), in the order of its codes 0 to 3. -/
inductive CtlPhase where
  | stage
  | waitStarted
  | waitEnded
  | waitDataDone
  deriving DecidableEq, Repr

/-- The entries of the descriptor table (R61). -/
inductive DescId where
  | dev
  | cfg
  | str0
  | str1
  | str2
  | rpt
  deriving DecidableEq, Repr

/-- The address spaces of R60. -/
inductive Space where
  | descRom (id : DescId)
  | ep0Buf
  | setupLatch
  | busTx
  | busRx
  | epInBuf
  | epOutBuf
  deriving DecidableEq, Repr

/-- An entry of `fault_log` (R37): a STALL or a FAULT of R300 with the information R300 logs for it. -/
inductive LogEntry where
  | stallUnmatched (setup : Vector Byte 8)
  | stallBadConfig (wValue : Half)
  | stallBadDescIndex (descType descIndex : Byte)
  | stallUnsupportedDesc (descType : Byte) (recipient : BitVec 5)
  | pulseOverflow (rotCnt : I32) (d : Pulse)
  | accOverflow (rotAcc p : I32)
  | busBusy (w : Half)
  deriving DecidableEq, Repr

/-- The five services of R304, in their fixed order 1 to 5. -/
inductive Service where
  | usbPower
  | setup
  | epOut
  | key
  | rotary
  deriving DecidableEq, Repr

/-- `seq_state` (R38). -/
inductive SeqState where
  | boot (i : Nat)
  | sleep
  | poll (k : Service)
  | run (k : Service)
  deriving DecidableEq, Repr

/-- Who performs the current step (R7). Hooks are run by SQ. -/
inductive Agent where
  | sq
  | env
  deriving DecidableEq, Repr

/-- What follows a bus transaction: the caller has its result, or the collecting transaction of a `BUS_READ` (R142). -/
inductive AfterXfer where
  | caller
  | collect
  deriving DecidableEq, Repr

/-- Where SQ stands inside a command of a hook: between two commands, at a wait of R302, or between the two
transactions of a `BUS_READ`. -/
inductive CmdPos where
  | idle
  | busWait (after : AfterXfer)
  | collect
  | inStarted
  | inEnded
  deriving DecidableEq, Repr

/-- Where SQ stands inside service 5 (R177). -/
inductive RotStep where
  | sample
  | accumulate
  | detent
  deriving DecidableEq, Repr

/-- The next completion event the environment may send for one started IN transfer (R49). -/
inductive EpStage where
  | started
  | ended
  | dataDone
  deriving DecidableEq, Repr

/-- The two phase signals of the knob (R171). -/
structure Phase where
  a : Bool
  b : Bool
  deriving DecidableEq, Repr

/-! ### The outside: events, hook commands, turns, ports -/

/-- The input events of R49, and two refinements of them the spec describes: a bus frame given by its MISO bits
(R148), and a knob movement given by its phases (R171). -/
inductive EnvEvent where
  | usbPower
  | setup (p : Vector Byte 8)
  | epStarted (ep : Endpoint)
  | epEnded (ep : Endpoint)
  | ep0DataDone
  | epOut (r : Vector Byte 5)
  | key
  | pulse (d : Pulse)
  | report
  | busEnd (rx : Vector Byte 2)
  | busFrame (miso : Half)
  | phase (p : Phase)
  deriving DecidableEq, Repr

/-- The commands a hook may issue (R50); `message w` is a bus message by its class (R89), the pseudo-forms `BUS_WRITE`
and `BUS_READ` of R98. -/
inductive HookCmd where
  | xfer (w : Half)
  | message (w : Half)
  | sendIn (r : Vector Byte 5)
  | armOut
  deriving DecidableEq, Repr

/-- One answer of the hooks' oracle (R306): the hook's next command, or that the hook has no further command. -/
inductive HookStep where
  | cmd (c : HookCmd)
  | done
  deriving DecidableEq, Repr

/-- The registers and buffers whose reset contents R43 leaves unspecified. -/
structure Unspecified where
  setup_latch : Vector Byte 8
  req : Request
  ep0_buf : Vector Byte 64
  bus_txbuf : Vector Byte 2
  bus_rxbuf : Vector Byte 2
  bus_result : Half
  epin_buf : Vector Byte 5
  epout_buf : Vector Byte 5
  deriving DecidableEq, Repr

/-- Who moves next, and how: SQ (with the abort step of R207 preferred or not), one event of the environment, or the
external reset of R340 with the unspecified contents it leaves and whether the serial chip is reset with the block. -/
inductive Turn where
  | sq (abort : Bool)
  | env (e : EnvEvent)
  | reset (u : Unspecified) (chip : Bool)
  deriving DecidableEq, Repr

/-- The output ports of R48; `fault_led` is a level and is the register of that name. -/
inductive Emit where
  | usbLinkStart
  | epInStart (ep : Endpoint) (bytes : List Byte)
  | ep0Status
  | ep0Stall
  | epEnable
  | epOutArm
  | busStart (bytes : Vector Byte 2)
  deriving DecidableEq, Repr

/-- The levels of the four bus signals (R148). -/
structure Pins where
  cs : Bool
  sck : Bool
  mosi : Bool
  miso : Bool
  deriving DecidableEq, Repr

/-- The hooks of R306. -/
inductive Hook where
  | boot
  | epOut
  | key
  | detent
  deriving DecidableEq, Repr

/-! ### Where a run ends -/

/-- Where a run is stuck. -/
inductive Fault where
  /-- HANG of R300 and R302, raised by `step`: SQ is held at the completion wait for flag `f`, the flag is 0, and no
  further turn of the environment is to come. Safe: the run has no next state. -/
  | hang (f : Flag)
  deriving DecidableEq, Repr

/-- Why a step has no meaning. -/
inductive Refusal where
  /-- raised by an arm of `exec` whose operation has no meaning yet; safe -/
  | notModelled (mnemonic : String)
  /-- BUS_UNKNOWN_ADDR of R143, code 0x30 of R300: raised by every start of a bus transaction whose address is outside
  `BUS_ADDR_SET`; safe -/
  | busUnknownAddr (w : Half)
  /-- OUT_OF_RANGE of R60, code 0x31 of R300: raised by an access past the end of an address space; safe -/
  | outOfRange (space : Space) (addr len : Nat)
  /-- FLAG_WRITER of R125, code 0x32 of R300: raised when SQ would set, or the environment would clear, flag `f`; safe -/
  | flagWriter (f : Flag)
  /-- raised by an environment event outside its duty of R49 (U21: such a step is not enabled); safe for the spec's
  machine, unsafe for an environment that breaks the duty -/
  | envDuty (e : EnvEvent)
  /-- raised when the oracle's answer breaks the constraint R306 puts on the running hook; safe for the spec's machine,
  unsafe for a hook that breaks the constraint -/
  | hookContract (h : Hook)
  deriving DecidableEq, Repr

/-- The classes of the outcomes of R300. -/
inductive OutcomeClass where
  | stall
  | fault
  | refuse
  | hang
  deriving DecidableEq, Repr

/-! ### State -/

/-- The state of the block and of what surrounds it. -/
structure State where
  /-- the implementation parameters (R6); no step changes them -/
  cfg : Config
  /-- the Signal Flags (R22) -/
  flags : Flags
  /-- R23 -/
  ctl_state : CtlState
  /-- R24 -/
  ctl_phase : CtlPhase
  /-- R25 -/
  setup_latch : Vector Byte 8
  /-- R26 -/
  req : Request
  /-- R27; `none` is NONE -/
  reply_src : Option DescId
  /-- R27 -/
  reply_len : Half
  /-- R27 -/
  reply_off : Half
  /-- R27 -/
  zlp_pending : Bool
  /-- R28 -/
  ep0_buf : Vector Byte 64
  /-- R28 -/
  ep0_len : BitVec 7
  /-- R29 -/
  configured : Bool
  /-- R30 -/
  out_armed : Bool
  /-- R31 -/
  link_started : Bool
  /-- R32 -/
  bus_busy : Bool
  /-- R33 -/
  bus_txbuf : Vector Byte 2
  /-- R33 -/
  bus_rxbuf : Vector Byte 2
  /-- R33 -/
  bus_result : Half
  /-- R34 -/
  rot_cnt : I32
  /-- R35 -/
  rot_acc : I32
  /-- the boundary buffer of the interrupt-IN endpoint (R60) -/
  epin_buf : Vector Byte 5
  /-- the boundary buffer of the OUT endpoint (R60) -/
  epout_buf : Vector Byte 5
  /-- R36 -/
  fault_led : Bool
  /-- R37, the oldest entry first -/
  fault_log : List LogEntry
  /-- R38 -/
  seq_state : SeqState
  /-- `refuse R` marks the whole state refused, with its reason (R11, R301); only a reset leaves it (R340) -/
  refused : Option Refusal
  /-- the previous word the serial chip received, or `none` after its reset (R41, R150); the environment's -/
  periph_prev : Option Half
  /-- the agent of the current step (R7, R125); the model's own -/
  agent : Agent
  /-- where SQ stands inside a hook's command (R302, R306); the model's own -/
  cmd : CmdPos
  /-- where SQ stands inside service 5 (R177); the model's own -/
  rot_step : RotStep
  /-- the value the last `TestAndClear` of SQ returned (R121); the model's own -/
  ret_flag : Bool
  /-- the value the last `Sample` returned, `p` of R177; the model's own -/
  ret_sample : I32
  /-- the value the last `Accumulate` returned, `q` of R177 and the argument of HOOK_DETENT; the model's own -/
  ret_indents : I32
  /-- the word the last `XFER` returned to its caller (R147, R301); the model's own -/
  ret_word : Half
  /-- the running hook has issued a `SEND_IN` (R306); the model's own -/
  hook_sent : Bool
  /-- the running hook has issued its `ARM_OUT` (R306); the model's own -/
  hook_armed : Bool
  /-- how many free values have been drawn; the model's own -/
  draws : Nat
  /-- for each started EP0 IN transfer, the next completion event the environment may send (R49) -/
  ep0_owed : List EpStage
  /-- the same for the interrupt-IN endpoint (R49) -/
  epin_owed : List EpStage
  /-- the knob's phases (R171); the environment's -/
  rot_phase : Phase
  /-- the turns still to come, the next one first; with none left SQ moves alone -/
  schedule : List Turn
  /-- the hooks' commands still to come, the next one first -/
  oracle : List HookStep
  /-- the output ports driven in this step, in order (R11, R48) -/
  emitted : List Emit
  /-- the pin levels of the bus frame of this step, in order (R148); empty when the step carried none -/
  wave : List Pins
  deriving DecidableEq, Repr

/-- What a step or an operation answers. -/
abbrev Result := Host.Outcome State Fault Refusal

/-- The contents this model gives the unspecified registers at reset: all bytes 0 (assumption 1, DESIGN CHOICE). -/
def Unspecified.zero : Unspecified where
  setup_latch := Vector.replicate 8 0
  req := ⟨0, 0, 0, 0, 0⟩
  ep0_buf := Vector.replicate 64 0
  bus_txbuf := Vector.replicate 2 0
  bus_rxbuf := Vector.replicate 2 0
  bus_result := 0
  epin_buf := Vector.replicate 5 0
  epout_buf := Vector.replicate 5 0

/-- The state reset leaves (R42, R43), for given parameters and given contents of the unspecified registers. -/
def State.atReset (c : Config) (u : Unspecified) : State where
  cfg := c
  flags := ⟨false, false, false, false, false, false, false, false, false, false, false⟩
  ctl_state := .idle
  ctl_phase := .stage
  setup_latch := u.setup_latch
  req := u.req
  reply_src := none
  reply_len := 0
  reply_off := 0
  zlp_pending := false
  ep0_buf := u.ep0_buf
  ep0_len := 0
  configured := false
  out_armed := false
  link_started := false
  bus_busy := false
  bus_txbuf := u.bus_txbuf
  bus_rxbuf := u.bus_rxbuf
  bus_result := u.bus_result
  rot_cnt := 0
  rot_acc := 0
  epin_buf := u.epin_buf
  epout_buf := u.epout_buf
  fault_led := false
  fault_log := []
  seq_state := .boot 0
  refused := none
  periph_prev := none
  agent := .sq
  cmd := .idle
  rot_step := .sample
  ret_flag := false
  ret_sample := 0
  ret_indents := 0
  ret_word := 0
  hook_sent := false
  hook_armed := false
  draws := 0
  ep0_owed := []
  epin_owed := []
  rot_phase := ⟨false, false⟩
  schedule := []
  oracle := []
  emitted := []
  wave := []

/-- The block right after reset, with the default parameters, nothing scheduled and no hook command to come. -/
def State.reset : State := .atReset .defaults .zero

end Sys2Proof.Machine
end

