-- ==== Sys2Proof/Machine/Descriptors.lean ====
section
/-! DEFINITION. The descriptor table (R61, R260 to R267): the constant bytes of its six entries, as functions of the parameters. -/

namespace Sys2Proof.Machine

/-- `DEV`, the device descriptor (R260). Its class, subclass and protocol are the constants of R260: D20 calls them
overridable and R6 names no parameter for them, and the model gives them none (assumption 29, DESIGN CHOICE). -/
def deviceDescriptor (c : Config) : List Byte :=
  [0x12, 0x01] ++ le16Bytes c.BCD_USB ++ [0x00, 0x00, 0x00, BitVec.ofNat 8 EP0_MPS] ++ le16Bytes c.VID ++
    le16Bytes c.PID ++ le16Bytes BCD_DEVICE ++ [0x01, 0x02, 0x00, NUM_CONFIGURATIONS]

/-- The configuration record (R262), with the constant iConfiguration of R262 (assumption 29). -/
def configurationRecord (c : Config) : List Byte :=
  [0x09, 0x02] ++ le16Bytes 41 ++ [0x01, lowByte CONFIG_VALUE, 0x00, c.CFG_ATTRIBUTES, c.CFG_MAX_POWER]

/-- The interface record (R263), with the constants of R263 (assumption 29). -/
def interfaceRecord : List Byte := [0x09, 0x04, 0x00, 0x00, 0x02, 0x03, 0x00, 0x00, 0x00]

/-- The HID class record (R264). Its country code is the constant of R264: D20 calls it overridable and R6 names no
parameter for it, and the model gives it none (assumption 29, DESIGN CHOICE). R264 has no value for a REPORT_DESC of more
than 65535 bytes; that wDescriptorLength is then the length modulo 2^16 is the model's choice (assumption 35). -/
def hidRecord (c : Config) : List Byte :=
  [0x09, 0x21] ++ le16Bytes c.BCD_HID ++ [0x00, 0x01, 0x22] ++ le16Bytes (BitVec.ofNat 16 c.REPORT_DESC.length)

/-- An endpoint record (R265). -/
def endpointRecord (c : Config) (addr : Byte) : List Byte :=
  [0x07, 0x05, addr, 0x03] ++ le16Bytes c.EP_MPS ++ [c.EP_INTERVAL]

/-- `CFG`, the five records back to back, the OUT endpoint before the IN endpoint (R261); the order is no parameter
(assumption 29). -/
def configurationDescriptor (c : Config) : List Byte :=
  configurationRecord c ++ interfaceRecord ++ hidRecord c ++ endpointRecord c c.EP_OUT_ADDR ++
    endpointRecord c c.EP_IN_ADDR

/-- `STR0`, the language ID list (R266). -/
def languageDescriptor (c : Config) : List Byte := [0x04, 0x03] ++ le16Bytes c.LANGID

/-- `STR1` and `STR2`: a text as UTF-16 code units, low byte first (R267). -/
def stringDescriptor (text : List Half) : List Byte :=
  [BitVec.ofNat 8 (2 + 2 * text.length), 0x03] ++ text.flatMap le16Bytes

/-- `DESC_ROM(id)` (R60, R61). -/
def descRom (c : Config) : DescId → List Byte
  | .dev => deviceDescriptor c
  | .cfg => configurationDescriptor c
  | .str0 => languageDescriptor c
  | .str1 => stringDescriptor c.MFR_STRING
  | .str2 => stringDescriptor c.PRODUCT_STRING
  | .rpt => c.REPORT_DESC

end Sys2Proof.Machine
end

