-- ==== Sys2Proof/Machine/Flags.lean ====
section
/-! DEFINITION. Reading, setting and clearing Signal Flags (R22, R120, R121, R124).
The block has no condition codes: the Signal Flags and the state bits are all the flags it has (R39). -/

namespace Sys2Proof.Machine

/-- The bit of flag `f`. -/
def Flags.get (fl : Flags) : Flag → Bool
  | .usbPower => fl.usbPower
  | .setup => fl.setup
  | .ep0Started => fl.ep0Started
  | .ep0Ended => fl.ep0Ended
  | .ep0DataDone => fl.ep0DataDone
  | .epInStarted => fl.epInStarted
  | .epInEnded => fl.epInEnded
  | .epOut => fl.epOut
  | .key => fl.key
  | .rotReport => fl.rotReport
  | .busDone => fl.busDone

/-- The flags with the bit of `f` replaced by `v`. -/
def Flags.put (fl : Flags) (f : Flag) (v : Bool) : Flags :=
  match f with
  | .usbPower => { fl with usbPower := v }
  | .setup => { fl with setup := v }
  | .ep0Started => { fl with ep0Started := v }
  | .ep0Ended => { fl with ep0Ended := v }
  | .ep0DataDone => { fl with ep0DataDone := v }
  | .epInStarted => { fl with epInStarted := v }
  | .epInEnded => { fl with epInEnded := v }
  | .epOut => { fl with epOut := v }
  | .key => { fl with key := v }
  | .rotReport => { fl with rotReport := v }
  | .busDone => { fl with busDone := v }

/-- Reading flag `f` of the state. -/
def State.flag (s : State) (f : Flag) : Bool := s.flags.get f

/-- `Set(f)` (R120). -/
def State.setFlag (s : State) (f : Flag) : State := { s with flags := s.flags.put f true }

/-- `clear(f)` (R124). -/
def State.clearFlag (s : State) (f : Flag) : State := { s with flags := s.flags.put f false }

/-- `TestAndClear(f)` (R121) as SQ's action: the value read is kept in `ret_flag`.
The environment may not clear a flag (R125). -/
def testAndClear (f : Flag) (s : State) : Result :=
  if s.agent = .sq then .next { s.clearFlag f with ret_flag := s.flag f } else .refused (.flagWriter f)

/-- The flag a service polls (R303). -/
def Service.flag : Service → Flag
  | .usbPower => .usbPower
  | .setup => .setup
  | .epOut => .epOut
  | .key => .key
  | .rotary => .rotReport

/-- Some service flag is 1, which is what ends the low-power wait of `SLEEP` (R304). -/
def State.woken (s : State) : Bool :=
  s.flag .usbPower || s.flag .setup || s.flag .epOut || s.flag .key || s.flag .rotReport

end Sys2Proof.Machine
end

