-- ==== Sys2Proof/Machine/Operands.lean ====
section
/-! DEFINITION. How operands are formed (R95): bus words and their staging bytes, the reply length, ranges of `i32`. -/

namespace Sys2Proof.Machine

/-! ### Bus words -/

/-- The two staging bytes of a bus word, the first one sent first (R64). -/
def busBytes (w : Half) : Vector Byte 2 := #v[highByte w, lowByte w]

/-- The bus word two received bytes make, the first one received being the high byte (R64). -/
def wordOfBus (b : Vector Byte 2) : Half := b[0] ++ b[1]

/-- The register address of a bus word (R88). -/
def busAddr (w : Half) : BitVec 7 := w.extractLsb' 8 7

/-- Whether the serial peripheral understands an address (R143). -/
def knowsAddr (c : Config) (a : BitVec 7) : Bool := c.BUS_ADDR_SET[a.toNat]'a.isLt

/-! ### Replies -/

/-- `reply_len` of a served GET_DESCRIPTOR (R95, R252). -/
def replyLen (entryLen : Nat) (wLength : Half) : Half := BitVec.ofNat 16 (min entryLen wLength.toNat)

/-- Whether a zero-length packet must end the data stage (R212). -/
def zlpNeeded (c : Config) (len wLength : Half) : Bool :=
  c.ZLP_ENABLE && decide (len.toNat % EP0_MPS = 0) && decide (len.toNat < wLength.toNat)

/-- The size of the next EP0 packet (R213). -/
def packetSize (len off : Half) : Nat := min EP0_MPS (len.toNat - off.toNat)

/-! ### i32 -/

/-- The smallest `i32` (R10). -/
def i32Min : Int := -2147483648

/-- The largest `i32` (R10). -/
def i32Max : Int := 2147483647

/-- A number that an `i32` register can hold. -/
def fitsI32 (x : Int) : Bool := decide (i32Min ≤ x ∧ x ≤ i32Max)

/-- `trunc_div` of R10: the quotient rounded toward zero. -/
def truncDiv (a b : Int) : Int := a.tdiv b

/-- The number a pulse adds (R170). -/
def pulseValue : Pulse → Int
  | .plus => 1
  | .minus => -1

end Sys2Proof.Machine
end

