-- ==== Sys2Proof/Machine/Ops.lean ====
section
/-! DEFINITION. The primitives of R11 that the operations share: memory accesses, ports, faults, the wait, the stall and
what leaves it. -/

namespace Sys2Proof.Machine

/-! ### Outcomes -/

/-- `o`, followed in the same step by the update `f` of its next state. -/
def afterNext (o : Result) (f : State → State) : Result :=
  match o with
  | .next t => .next (f t)
  | .fault r => .fault r
  | .refused r => .refused r

/-! ### Ports and faults -/

/-- `emit P(args)` (R11, R48): the ports driven in a step, in order. -/
def State.emit (s : State) (e : Emit) : State := { s with emitted := s.emitted ++ [e] }

/-- `raise E(info)` (R11, R301): the entry is appended to `fault_log`, and nothing removes it. -/
def State.raise (s : State) (e : LogEntry) : State := { s with fault_log := s.fault_log ++ [e] }

/-- The class STALL of R300; every other entry of the log is of class FAULT. -/
def LogEntry.isStall : LogEntry → Bool
  | .stallUnmatched _ => true
  | .stallBadConfig _ => true
  | .stallBadDescIndex _ _ => true
  | .stallUnsupportedDesc _ _ => true
  | .pulseOverflow _ _ => false
  | .accOverflow _ _ => false
  | .busBusy _ => false

/-- The class of R300. -/
def LogEntry.outcomeClass (e : LogEntry) : OutcomeClass := if e.isStall then .stall else .fault

/-- The code of R300. -/
def LogEntry.code : LogEntry → Byte
  | .stallUnmatched _ => 0x10
  | .stallBadConfig _ => 0x11
  | .stallBadDescIndex _ _ => 0x12
  | .stallUnsupportedDesc _ _ => 0x13
  | .pulseOverflow _ _ => 0x20
  | .accOverflow _ _ => 0x21
  | .busBusy _ => 0x22

/-- The code of R300. The outcomes of class REFUSE have one; the ends of a run that R300 does not list have none. -/
def Refusal.code : Refusal → Option Byte
  | .busUnknownAddr _ => some 0x30
  | .outOfRange _ _ _ => some 0x31
  | .flagWriter _ => some 0x32
  | _ => none

/-- The class of R300, for the outcomes R300 lists. -/
def Refusal.outcomeClass (r : Refusal) : Option OutcomeClass := r.code.map fun _ => .refuse

/-- The class of R300; a hang has no code. -/
def Fault.outcomeClass : Fault → OutcomeClass
  | .hang _ => .hang

/-! ### The refused state (R11, R301, R340) -/

/-- A turn that resets the block. -/
def Turn.isReset : Turn → Bool
  | .sq _ => false
  | .env _ => false
  | .reset _ _ => true

/-- `refuse R` (R11): the state is marked refused and waits for the reset of R340, which is its only step.
When no reset is to come the run has no further step and is over (assumption 30). -/
def State.refuse (s : State) (r : Refusal) : Result :=
  if s.schedule.any Turn.isReset then .next { s with refused := some r } else .refused r

/-- The outcome of the step that answered `o` in `s`: a refusal of class REFUSE marks the state. A step that is not
enabled in the spec's machine (an event outside its duty, a hook outside its contract) ends the run. -/
def State.settle (s : State) (o : Result) : Result :=
  match o with
  | .next t => .next t
  | .fault r => .fault r
  | .refused r => if r.outcomeClass = some .refuse then s.refuse r else .refused r

/-- A step other than a reset: `o` when the state is not refused, and none when it is (R301). -/
def State.attempt (s : State) (o : Result) : Result :=
  match s.refused with
  | none => s.settle o
  | some r => s.refuse r

/-! ### Memory (R60, R66) -/

/-- The bytes of an address space. -/
def spaceBytes (s : State) : Space → List Byte
  | .descRom id => descRom s.cfg id
  | .ep0Buf => s.ep0_buf.toList
  | .setupLatch => s.setup_latch.toList
  | .busTx => s.bus_txbuf.toList
  | .busRx => s.bus_rxbuf.toList
  | .epInBuf => s.epin_buf.toList
  | .epOutBuf => s.epout_buf.toList

/-- `MemRead(space, addr, n)` (R11): `none` when a byte past the end of the space is asked for. A read of no byte at the
space's size, which R213 makes for a zero-length packet after a whole entry, asks for none and goes through, although R60
speaks of any access at the size: the model's choice (assumption 32, DESIGN CHOICE). -/
def memRead (sp : Space) (addr n : Nat) (s : State) : Option (List Byte) :=
  if addr + n ≤ (spaceBytes s sp).length then some (((spaceBytes s sp).drop addr).take n) else none

/-- A buffer with the bytes from `addr` on replaced. -/
def splice {n : Nat} (v : Vector Byte n) (addr : Nat) (bs : List Byte) (h : addr + bs.length ≤ n) : Vector Byte n :=
  ⟨(v.toList.take addr ++ bs ++ v.toList.drop (addr + bs.length)).toArray, by
    simp only [List.size_toArray, List.length_append, List.length_take, List.length_drop, Vector.length_toList]
    omega⟩

/-- `MemWrite(space, addr, n, v)` (R11): `none` past the end of the space (no byte counts as in `memRead`, assumption 32), and for the descriptor table, which nothing
writes (R62). -/
def memWrite (sp : Space) (addr : Nat) (bs : List Byte) (s : State) : Option State :=
  match sp with
  | .descRom _ => none
  | .ep0Buf => if h : addr + bs.length ≤ 64 then some { s with ep0_buf := splice s.ep0_buf addr bs h } else none
  | .setupLatch =>
    if h : addr + bs.length ≤ 8 then some { s with setup_latch := splice s.setup_latch addr bs h } else none
  | .busTx => if h : addr + bs.length ≤ 2 then some { s with bus_txbuf := splice s.bus_txbuf addr bs h } else none
  | .busRx => if h : addr + bs.length ≤ 2 then some { s with bus_rxbuf := splice s.bus_rxbuf addr bs h } else none
  | .epInBuf => if h : addr + bs.length ≤ 5 then some { s with epin_buf := splice s.epin_buf addr bs h } else none
  | .epOutBuf => if h : addr + bs.length ≤ 5 then some { s with epout_buf := splice s.epout_buf addr bs h } else none

/-! ### The wait (R123) -/

/-- `wait(f)`: SQ has a step only when `f` is 1, and the step clears `f` and goes on with `k`.
`none` says that SQ is held. -/
def waitFlag (f : Flag) (s : State) (k : State → State) : Option Result :=
  if s.flag f then some (.next (k (s.clearFlag f))) else none

/-! ### Hooks -/

/-- The hook SQ is running (R306), if it is running one. -/
def State.atHook (s : State) : Option Hook :=
  match s.seq_state with
  | .boot _ => some .boot
  | .sleep => none
  | .poll _ => none
  | .run .usbPower => none
  | .run .setup => none
  | .run .epOut => some .epOut
  | .run .key => some .key
  | .run .rotary => if s.rot_step = .detent then some .detent else none

/-! ### The stall and the return from it -/

/-- `stall(cause)` (R240, R307): the one abnormal entry of the block. No register is saved and no vector is used. -/
def State.stall (s : State) (cause : LogEntry) : State :=
  { ((s.emit .ep0Stall).raise cause) with fault_led := true, ctl_state := .stalled }

/-- The decode of the latched SETUP packet (R206), which is also the only way out of `STALLED` (R201, R308). -/
def State.decodeLatch (s : State) : State :=
  { s with
    req := .ofBytes s.setup_latch
    reply_src := none
    reply_len := 0
    reply_off := 0
    zlp_pending := false
    ctl_state := .setupDecoded }

end Sys2Proof.Machine
end

