-- ==== Sys2Proof/Machine/Bus.lean ====
section
/-! DEFINITION. The synchronous bus transactor (41_bus_transactor.md). -/

namespace Sys2Proof.Machine

/-- Where SQ stands once a transaction is over (R142, R147). -/
def AfterXfer.pos : AfterXfer → CmdPos
  | .caller => .idle
  | .collect => .collect

/-- `XFER` returns the word `v` to its caller (R147, R301). -/
def State.xferReturn (s : State) (after : AfterXfer) (v : Half) : State :=
  { s with ret_word := v, cmd := after.pos }

/-- The start of a transaction (R143, R144, R145).
An unknown address is refused before anything is staged.
A start while the bus is busy is the FAULT BUS_BUSY: it is logged, nothing is staged or emitted, and the call returns a
free value (R301). -/
def startXfer (after : AfterXfer) (w : Half) (s : State) : Result :=
  if knowsAddr s.cfg (busAddr w) = false then .refused (.busUnknownAddr w)
  else if s.bus_busy then
    .next { (s.raise (.busBusy w)).xferReturn after (Config.freeWord s.draws) with draws := s.draws + 1 }
  else if s.agent = .sq then
    .next (State.emit { s.clearFlag .busDone with
      bus_txbuf := busBytes w
      bus_busy := true
      cmd := .busWait after } (.busStart (busBytes w)))
  else .refused (.flagWriter .busDone)

/-- The result of a transaction, in the step that ends its wait (R146, R147). -/
def State.finishXfer (after : AfterXfer) (s : State) : State :=
  { s with bus_result := wordOfBus s.bus_rxbuf }.xferReturn after (wordOfBus s.bus_rxbuf)

/-- XFER (R145): the start of one transaction; SQ then waits (R146) and collects the result (R147). -/
def execXfer (w : Half) (s : State) : Result := startXfer .caller w s

/-- BUS_WRITE (R141): one transaction with the read bit clear. -/
def execBusWrite (addr : BitVec 7) (data : Byte) (s : State) : Result := startXfer .caller (busWord 0 addr data) s

/-- BUS_READ (R142): the request's transaction, after which SQ goes on to the collecting one. -/
def execBusRead (addr : BitVec 7) (data : Byte) (s : State) : Result := startXfer .collect (busWord 1 addr data) s

/-- The value of a finished `BUS_READ` (R142): the low byte of the word its collecting transaction returned. -/
def State.readValue (s : State) : Byte := lowByte s.ret_word

end Sys2Proof.Machine
end

