-- ==== Sys2Proof/Machine/Endpoints.lean ====
section
/-! DEFINITION. The IN-transfer primitive and the OUT buffer (R230, R231). -/

namespace Sys2Proof.Machine

/-- The start of an EP0 transfer (R213, R230): the bytes are staged, the three completion flags cleared and the transfer
triggered in one step.
The environment then owes its three completion events (R49), which SQ awaits by `ctl_phase` (R214 to R216). -/
def startEp0 (bytes : List Byte) (s : State) : Result :=
  match memWrite .ep0Buf 0 bytes s with
  | none => .refused (.outOfRange .ep0Buf 0 bytes.length)
  | some t =>
    if s.agent = .sq then
      .next (State.emit { ((t.clearFlag .ep0Started).clearFlag .ep0Ended).clearFlag .ep0DataDone with
        ep0_len := BitVec.ofNat 7 bytes.length
        ctl_phase := .waitStarted
        ep0_owed := s.ep0_owed ++ [.started] } (.epInStart .ep0 bytes))
    else .refused (.flagWriter .ep0Started)

/-- The start of an interrupt-IN transfer (R230); SQ then awaits "started" and "ended". -/
def startEpIn (bytes : List Byte) (s : State) : Result :=
  match memWrite .epInBuf 0 bytes s with
  | none => .refused (.outOfRange .epInBuf 0 bytes.length)
  | some t =>
    if s.agent = .sq then
      .next (State.emit { (t.clearFlag .epInStarted).clearFlag .epInEnded with
        cmd := .inStarted
        epin_owed := s.epin_owed ++ [.started] } (.epInStart .epIn bytes))
    else .refused (.flagWriter .epInStarted)

/-- EP_IN_SEND (R230). -/
def execEpInSend (ep : Endpoint) (bytes : List Byte) (s : State) : Result :=
  match ep with
  | .ep0 => startEp0 bytes s
  | .epIn => startEpIn bytes s

/-- ARM_OUT (R231). -/
def execArmOut (s : State) : Result := .next (State.emit { s with out_armed := true } .epOutArm)

end Sys2Proof.Machine
end

