-- ==== Sys2Proof/Machine/GetDescriptor.lean ====
section
/-! DEFINITION. The descriptor dispatcher (44_usb_descriptors.md).
wIndex is not checked for any type (R253). -/

namespace Sys2Proof.Machine

/-- A served GET_DESCRIPTOR (R252) and the entry into the data stage, in the same step (R212). -/
def replyFrom (entry : DescId) (wLength : Half) (s : State) : State :=
  let len := replyLen (descRom s.cfg entry).length wLength
  let t := { s with reply_src := some entry, reply_len := len }
  if len = 0 then { t with ctl_state := .status }
  else
    { t with
      reply_off := 0
      zlp_pending := zlpNeeded s.cfg len wLength
      ctl_state := .dataIn
      ctl_phase := .stage }

/-- The index check of an entry of which there is one (R253). -/
def serveIndexZero (descType : Byte) (entry : DescId) (descIndex : Byte) (wLength : Half) (s : State) : Result :=
  if descIndex = 0 then .next (replyFrom entry wLength s)
  else .next (s.stall (.stallBadDescIndex descType descIndex))

/-- GET_DESCRIPTOR_DEVICE (R254). -/
def execGetDescriptorDevice (descIndex : Byte) (_wIndex wLength : Half) (s : State) : Result :=
  serveIndexZero 0x01 .dev descIndex wLength s

/-- GET_DESCRIPTOR_CONFIGURATION (R255). -/
def execGetDescriptorConfiguration (descIndex : Byte) (_wIndex wLength : Half) (s : State) : Result :=
  serveIndexZero 0x02 .cfg descIndex wLength s

/-- GET_DESCRIPTOR_STRING (R256): indexes 0, 1 and 2 name entries. -/
def execGetDescriptorString (descIndex : Byte) (_wIndex wLength : Half) (s : State) : Result :=
  if descIndex = 0 then .next (replyFrom .str0 wLength s)
  else if descIndex = 1 then .next (replyFrom .str1 wLength s)
  else if descIndex = 2 then .next (replyFrom .str2 wLength s)
  else .next (s.stall (.stallBadDescIndex 0x03 descIndex))

/-- GET_DESCRIPTOR_REPORT (R257). -/
def execGetDescriptorReport (descIndex : Byte) (_wIndex wLength : Half) (s : State) : Result :=
  serveIndexZero 0x22 .rpt descIndex wLength s

/-- GET_DESCRIPTOR_DEVICE_QUALIFIER (R258): explicitly stalled. -/
def execGetDescriptorDeviceQualifier (_descIndex : Byte) (_wIndex _wLength : Half) (s : State) : Result :=
  .next (s.stall (.stallUnsupportedDesc 0x06 0))

/-- GET_DESCRIPTOR_OTHER (R259): a type no row serves; the type and the recipient are logged (R300). -/
def execGetDescriptorOther (recipient : BitVec 1) (descType _descIndex : Byte) (_wIndex _wLength : Half) (s : State) :
    Result :=
  .next (s.stall (.stallUnsupportedDesc descType (recipient.setWidth 5)))

end Sys2Proof.Machine
end

