-- ==== Sys2Proof/Machine/Requests.lean ====
section
/-! DEFINITION. The host-to-device request handlers and the unmatched request (43_usb_control.md).
They do not check the recipient, wIndex or wLength (R225). -/

namespace Sys2Proof.Machine

/-- A request that is acknowledged and does nothing else. -/
def acknowledge (s : State) : Result := .next { s with ctl_state := .status }

/-- SET_ADDRESS (R220): the peripheral latches the address, not the block. -/
def execSetAddress (_recipient : BitVec 5) (_wValue _wIndex _wLength : Half) (s : State) : Result := acknowledge s

/-- SET_CONFIGURATION (R221): the whole wValue must be 1. -/
def execSetConfiguration (_recipient : BitVec 5) (wValue _wIndex _wLength : Half) (s : State) : Result :=
  if wValue = CONFIG_VALUE then
    .next { (s.emit .epEnable).emit .epOutArm with configured := true, out_armed := true, ctl_state := .status }
  else .next (s.stall (.stallBadConfig wValue))

/-- CLEAR_FEATURE (R222). -/
def execClearFeature (_recipient : BitVec 5) (_wValue _wIndex _wLength : Half) (s : State) : Result := acknowledge s

/-- SET_IDLE (R223): no state is kept. -/
def execSetIdle (_recipient : BitVec 5) (_wValue _wIndex _wLength : Half) (s : State) : Result := acknowledge s

/-- UNMATCHED (R224): the eight SETUP bytes are logged (R300). -/
def execUnmatched (bmRequestType bRequest : Byte) (wValue wIndex wLength : Half) (s : State) : Result :=
  .next (s.stall (.stallUnmatched (Request.toBytes ⟨bmRequestType, bRequest, wValue, wIndex, wLength⟩)))

end Sys2Proof.Machine
end

