-- ==== Sys2Proof/Machine/Rotary.lean ====
section
/-! DEFINITION. The rotary quadrature accumulator (42_rotary_accumulator.md).
The arithmetic is on mathematical integers, and a sum that leaves the `i32` range is a logged FAULT (R170, R173). -/

namespace Sys2Proof.Machine

/-- ROT_PULSE (R170). -/
def execRotPulse (d : Pulse) (s : State) : Result :=
  let sum := s.rot_cnt.toInt + pulseValue d
  if fitsI32 sum then .next { s with rot_cnt := BitVec.ofInt 32 sum }
  else .next (s.raise (.pulseOverflow s.rot_cnt d))

/-- ROT_SAMPLE (R172): the counter is read and cleared in one step. -/
def execRotSample (s : State) : Result := .next { s with ret_sample := s.rot_cnt, rot_cnt := 0 }

/-- ROT_ACCUMULATE (R173): the whole detents of the sum are returned, and the remainder stays; the quotient is rounded
toward zero (R175). When it is 0 the sum itself stays (90_conflicts.md C4). -/
def execRotAccumulate (p : I32) (s : State) : Result :=
  let sum := s.rot_acc.toInt + p.toInt
  if fitsI32 sum then
    let q := truncDiv sum PULSES_PER_DETENT
    .next { s with rot_acc := BitVec.ofInt 32 (sum - PULSES_PER_DETENT * q), ret_indents := BitVec.ofInt 32 q }
  else .next { s.raise (.accOverflow s.rot_acc p) with ret_indents := 0 }

/-- ROT_HAS_REPORT (R176). -/
def execRotHasReport (s : State) : Result := testAndClear .rotReport s

/-! ### The knob's phases (R171, not normative) -/

/-- The place of a phase pair in the order 00, 01, 11, 10. -/
def Phase.index (p : Phase) : BitVec 2 :=
  match p.a, p.b with
  | false, false => 0
  | false, true => 1
  | true, true => 2
  | true, false => 3

/-- The pulse a phase transition makes (R171): one place forward or backward is a pulse, no move and a jump by two are
none. `dir` says which of the two gives +1 (`ROT_DIR`). -/
def phasePulse (dir : Bool) (old new : Phase) : Option Pulse :=
  if new.index - old.index = 1 then some (if dir then .plus else .minus)
  else if new.index - old.index = 3 then some (if dir then .minus else .plus)
  else none

end Sys2Proof.Machine
end

