-- ==== Sys2Proof/Machine/Signals.lean ====
section
/-! DEFINITION. The Signal Flag operations (40_signal_flag.md). -/

namespace Sys2Proof.Machine

/-- FLAG_SET (R120): the environment sets the flag; a flag that is 1 stays 1, and the event is not counted.
SQ may not set a flag (R125). -/
def execFlagSet (f : Flag) (s : State) : Result :=
  if s.agent = .env then .next (s.setFlag f) else .refused (.flagWriter f)

/-- FLAG_TAC (R121). -/
def execFlagTac (f : Flag) (s : State) : Result := testAndClear f s

end Sys2Proof.Machine
end

