-- ==== Sys2Proof/Machine/Dispatch.lean ====
section
/-! DEFINITION. One arm per operation of the block: what performing it in one step does. -/

namespace Sys2Proof.Machine

def exec (i : Instr) (s : State) : Host.Outcome State Fault Refusal :=
  match i with
  -- rows 1 to 4 of the request map
  | .setAddress rc v x l => Sys2Proof.Machine.execSetAddress rc v x l s
  | .setConfiguration rc v x l => Sys2Proof.Machine.execSetConfiguration rc v x l s
  | .clearFeature rc v x l => Sys2Proof.Machine.execClearFeature rc v x l s
  | .setIdle rc v x l => Sys2Proof.Machine.execSetIdle rc v x l s
  -- rows 5 to 11
  | .getDescriptorDevice n x l => Sys2Proof.Machine.execGetDescriptorDevice n x l s
  | .getDescriptorConfiguration n x l => Sys2Proof.Machine.execGetDescriptorConfiguration n x l s
  | .getDescriptorString n x l => Sys2Proof.Machine.execGetDescriptorString n x l s
  | .getDescriptorReport n x l => Sys2Proof.Machine.execGetDescriptorReport n x l s
  | .getDescriptorDeviceQualifier n x l => Sys2Proof.Machine.execGetDescriptorDeviceQualifier n x l s
  | .getDescriptorOther rc t n x l => Sys2Proof.Machine.execGetDescriptorOther rc t n x l s
  | .unmatched bm br v x l => Sys2Proof.Machine.execUnmatched bm br v x l s
  -- the bus
  | .busWrite a d => Sys2Proof.Machine.execBusWrite a d s
  | .busRead a d => Sys2Proof.Machine.execBusRead a d s
  | .xfer w => Sys2Proof.Machine.execXfer w s
  -- the Signal Flags
  | .flagSet f => Sys2Proof.Machine.execFlagSet f s
  | .flagTac f => Sys2Proof.Machine.execFlagTac f s
  -- the rotary accumulator
  | .rotPulse d => Sys2Proof.Machine.execRotPulse d s
  | .rotSample => Sys2Proof.Machine.execRotSample s
  | .rotAccumulate p => Sys2Proof.Machine.execRotAccumulate p s
  | .rotHasReport => Sys2Proof.Machine.execRotHasReport s
  -- the endpoints
  | .epInSend ep bytes => Sys2Proof.Machine.execEpInSend ep bytes s
  | .armOut => Sys2Proof.Machine.execArmOut s

end Sys2Proof.Machine
end

