-- ==== Sys2Proof/Machine/Pins.lean ====
section
/-! DEFINITION. The bus frame at pin level (R148, R149): clock idle low, sample on the rising edge, most significant bit
first, chip select asserted (low) for the whole frame. -/

namespace Sys2Proof.Machine

/-- The levels between frames: chip select released, clock low (R148). -/
def pinsIdle : Pins := ⟨true, false, false, false⟩

/-- One bit of a frame: the data lines are valid while the clock is low, and both ends sample at the rise. -/
def bitCell (mosi miso : Bool) : List Pins := [⟨false, false, mosi, miso⟩, ⟨false, true, mosi, miso⟩]

/-- The bits of a word as they go on the wire, the most significant first. -/
def wireBits (w : Half) : List Bool := (List.range 16).map fun i => w.getLsbD (15 - i)

/-- The frame that sends `w` while the chip sends `miso` (R148). The spec gives no level of the data lines after the last
falling edge; that they keep the last bit there until the chip select is released is the model's choice (assumption 15,
DESIGN CHOICE). -/
def busFrame (w miso : Half) : List Pins :=
  [pinsIdle] ++ (List.zipWith bitCell (wireBits w) (wireBits miso)).flatten ++
    [⟨false, false, w.getLsbD 0, miso.getLsbD 0⟩, pinsIdle]

/-- What both ends see at the rising clock edges of a wave: the MOSI and MISO levels, in order. -/
def risingSamples : List Pins → List (Bool × Bool)
  | p :: q :: rest => (if !p.sck && q.sck then [(q.mosi, q.miso)] else []) ++ risingSamples (q :: rest)
  | _ => []

/-- The word whose wire bits are a list of samples, the first one most significant. -/
def wordOfSamples (bits : List Bool) : Half := bits.foldl (fun w b => (w <<< 1) ||| (if b then 1 else 0)) 0

/-- The two bytes `bus_rxbuf` holds after a wave (R148). -/
def receivedBytes (wave : List Pins) : Vector Byte 2 :=
  let w := wordOfSamples ((risingSamples wave).map Prod.snd)
  #v[highByte w, lowByte w]

end Sys2Proof.Machine
end

