-- ==== Sys2Proof/Machine/Env.lean ====
section
/-! DEFINITION. The environment (R7, R49): its input events, its duties, the serial peripheral's contract and the reset. -/

namespace Sys2Proof.Machine

/-! ### Duties (R49, last column) -/

/-- The list of owed completions after the first one at `stage` has been sent: it moves on to `next`, or is over. -/
def payOwed (stage : EpStage) (next : Option EpStage) : List EpStage → List EpStage
  | [] => []
  | e :: rest => if e = stage then next.toList ++ rest else e :: payOwed stage next rest

/-- When the environment may send an event: the last column of R49, and no USB event before the link is started (R31). -/
def envMay (e : EnvEvent) (s : State) : Bool :=
  match e with
  | .usbPower => true
  | .setup _ => s.link_started
  | .epStarted .ep0 => s.link_started && s.ep0_owed.contains .started
  | .epStarted .epIn => s.link_started && s.epin_owed.contains .started
  | .epEnded .ep0 => s.link_started && s.ep0_owed.contains .ended
  | .epEnded .epIn => s.link_started && s.epin_owed.contains .ended
  | .ep0DataDone => s.link_started && s.ep0_owed.contains .dataDone
  | .epOut _ => s.link_started && s.configured && s.out_armed
  | .key => true
  | .pulse _ => true
  | .report => true
  | .busEnd _ => s.bus_busy
  | .busFrame _ => s.bus_busy
  | .phase _ => true

/-! ### The serial peripheral (R150) -/

/-- The contract on the peripheral's answer `rx` (R150): after a read request its low byte is the register that was
asked for; every other bit is free. `regValue` is what the chip's registers hold. -/
def periphContract (prev : Option Half) (regValue : BitVec 7 → Byte) (rx : Vector Byte 2) : Prop :=
  match prev with
  | none => True
  | some w => w.getLsbD 15 = true → rx[1] = regValue (busAddr w)

/-- The end of a bus transaction with answer `rx` (R49), and the peripheral's pipeline (R150). -/
def State.busEnd (s : State) (rx : Vector Byte 2) : State :=
  { s with bus_rxbuf := rx, bus_busy := false, periph_prev := some (wordOfBus s.bus_txbuf) }

/-! ### Events -/

/-- The data an event writes in its step, beside its flag (R49). -/
def envData (e : EnvEvent) (s : State) : State :=
  match e with
  | .usbPower => s
  | .setup p => { s with setup_latch := p }
  | .epStarted .ep0 => { s with ep0_owed := payOwed .started (some .ended) s.ep0_owed }
  | .epStarted .epIn => { s with epin_owed := payOwed .started (some .ended) s.epin_owed }
  | .epEnded .ep0 => { s with ep0_owed := payOwed .ended (some .dataDone) s.ep0_owed }
  | .epEnded .epIn => { s with epin_owed := payOwed .ended none s.epin_owed }
  | .ep0DataDone => { s with ep0_owed := payOwed .dataDone none s.ep0_owed }
  | .epOut r => { s with epout_buf := r, out_armed := false }
  | .key => s
  | .pulse _ => s
  | .report => s
  | .busEnd rx => s.busEnd rx
  | .busFrame miso =>
    let wave := busFrame (wordOfBus s.bus_txbuf) miso
    { s.busEnd (receivedBytes wave) with wave := wave }
  | .phase p => { s with rot_phase := p }

/-- The operation an event performs: setting its flag, or adding a pulse (R49, R303). -/
def envInstr (e : EnvEvent) (s : State) : Option Instr :=
  match e with
  | .usbPower => some (.flagSet .usbPower)
  | .setup _ => some (.flagSet .setup)
  | .epStarted .ep0 => some (.flagSet .ep0Started)
  | .epStarted .epIn => some (.flagSet .epInStarted)
  | .epEnded .ep0 => some (.flagSet .ep0Ended)
  | .epEnded .epIn => some (.flagSet .epInEnded)
  | .ep0DataDone => some (.flagSet .ep0DataDone)
  | .epOut _ => some (.flagSet .epOut)
  | .key => some (.flagSet .key)
  | .pulse d => some (.rotPulse d)
  | .report => some (.flagSet .rotReport)
  | .busEnd _ => some (.flagSet .busDone)
  | .busFrame _ => some (.flagSet .busDone)
  | .phase p => (phasePulse s.cfg.ROT_DIR s.rot_phase p).map .rotPulse

/-- One step of the environment (R7, R49): an event outside its duty is not enabled (U21) and is refused. -/
def envStep (e : EnvEvent) (s : State) : Result :=
  if envMay e s then
    let t := { envData e s with agent := .env }
    match envInstr e s with
    | some i => exec i t
    | none => .next t
  else .refused (.envDuty e)

/-! ### Reset (R340) -/

/-- The oracle's answers after the ones meant for the running hook, which end with its `done`. -/
def answersAfterHook : List HookStep → List HookStep
  | [] => []
  | .cmd _ :: rest => answersAfterHook rest
  | .done :: rest => rest

/-- The hooks' answers after a reset: the hook in progress is abandoned (R340), and with it the rest of its sequence, so
HOOK_BOOT gets a sequence of its own (R342, assumption 13). -/
def State.oracleAfterReset (s : State) : List HookStep :=
  match s.atHook with
  | some _ => answersAfterHook s.oracle
  | none => s.oracle

/-- The external hardware reset: every register at its reset value at once, with contents `u` in the unspecified ones, and
the hook in progress abandoned.
The parameters, the outside world's plans and the count of draws are not registers of the block and stay. -/
def State.hardReset (s : State) (u : Unspecified) (chip : Bool) : State :=
  { State.atReset s.cfg u with
    periph_prev := if chip then none else s.periph_prev
    rot_phase := s.rot_phase
    draws := s.draws
    schedule := s.schedule
    oracle := s.oracleAfterReset }

end Sys2Proof.Machine
end

