-- ==== Sys2Proof/Machine/Sequencer.lean ====
section
/-! DEFINITION. The sequencer SQ: boot (R342), the service loop (R304), the control transfer (R205 to R217), the rotary
service (R177) and the hooks (R306).

Every function here is one step of SQ, and `none` says that SQ has no enabled step (R123, R304). -/

namespace Sys2Proof.Machine

/-! ### The order of the services (R304) -/

/-- The service polled after a service, or SLEEP after the last. -/
def Service.after : Service → SeqState
  | .usbPower => .poll .setup
  | .setup => .poll .epOut
  | .epOut => .poll .key
  | .key => .poll .rotary
  | .rotary => .sleep

/-- The operation that polls a service: `TestAndClear` of its flag; for the rotary service that is `HasReport` (R177). -/
def Service.pollInstr : Service → Instr
  | .usbPower => .flagTac .usbPower
  | .setup => .flagTac .setup
  | .epOut => .flagTac .epOut
  | .key => .flagTac .key
  | .rotary => .rotHasReport

/-- Service entry (R307): nothing is saved. -/
def State.enterService (k : Service) (s : State) : State :=
  { s with seq_state := .run k, rot_step := .sample, hook_sent := false, hook_armed := false }

/-- The poll of a service (R304). -/
def pollStep (k : Service) (s : State) : Result :=
  afterNext (exec k.pollInstr s) fun t => if t.ret_flag then t.enterService k else { t with seq_state := k.after }

/-! ### Service 1 (R305) -/

/-- The handler of a power-presence event. -/
def linkStep (s : State) : Result :=
  .next (State.emit { s with link_started := true, seq_state := Service.after .usbPower } .usbLinkStart)

/-! ### Service 2: the control transfer -/

/-- Service 2 returns when the transfer is over (R205): `ctl_state` is IDLE or STALLED. -/
def State.serviceReturn (s : State) : State :=
  match s.ctl_state with
  | .idle => { s with seq_state := Service.after .setup }
  | .stalled => { s with seq_state := Service.after .setup }
  | .setupDecoded => s
  | .dataIn => s
  | .status => s

/-- Dispatch (R208): the operation the decoded request selects is performed. -/
def dispatchStep (s : State) : Result := afterNext (exec (decodeRequest s.req) s) State.serviceReturn

/-- STAGE (R213): the next packet of the reply is read from the descriptor table and sent.
The table `NONE` has no byte, so the access is refused (R60); R60 has no space for it, and that the refusal names `EP0_BUF`,
the offset and the packet's size is the model's choice (assumption 21, DESIGN CHOICE). -/
def stageStep (s : State) : Result :=
  let n := packetSize s.reply_len s.reply_off
  let off := s.reply_off.toNat
  match s.reply_src with
  | none => .refused (.outOfRange .ep0Buf off n)
  | some id =>
    match memRead (.descRom id) off n s with
    | none => .refused (.outOfRange (.descRom id) off n)
    | some bytes => exec (.epInSend .ep0 bytes) s

/-- What follows the last wait of a packet (R216). -/
def State.packetDone (s : State) : State :=
  let off := s.reply_off + s.ep0_len.setWidth 16
  let t := { s with reply_off := off }
  if off.toNat < s.reply_len.toNat then { t with ctl_phase := .stage }
  else if s.zlp_pending then { t with zlp_pending := false, ctl_phase := .stage }
  else { t with ctl_state := .status }

/-- The data stage (R213 to R216). -/
def dataStep (s : State) : Option Result :=
  match s.ctl_phase with
  | .stage => some (stageStep s)
  | .waitStarted => waitFlag .ep0Started s fun t => { t with ctl_phase := .waitEnded }
  | .waitEnded => waitFlag .ep0Ended s fun t => { t with ctl_phase := .waitDataDone }
  | .waitDataDone => waitFlag .ep0DataDone s State.packetDone

/-- The status stage (R217); it is not waited for. -/
def statusStep (s : State) : Result :=
  .next (State.emit { s with ctl_state := .idle } .ep0Status).serviceReturn

/-- The step of service 2 (R205, R206, R208). -/
def ctlStep (s : State) : Option Result :=
  match s.ctl_state with
  | .idle => some (.next s.decodeLatch)
  | .stalled => some (.next s.decodeLatch)
  | .setupDecoded => some (dispatchStep s)
  | .dataIn => dataStep s
  | .status => some (statusStep s)

/-- SQ may abort the transfer (R207): the parameter allows it, and a SETUP is pending at one of the data stage's waits. -/
def State.mayAbort (s : State) : Bool :=
  s.cfg.SETUP_ABORTS && s.flag .setup && decide (s.seq_state = .run .setup) && decide (s.ctl_state = .dataIn) &&
    !decide (s.ctl_phase = .stage)

/-- The abort step (R207): service 2 returns, and `FL_SETUP` stays set. -/
def abortStep (s : State) : Result :=
  .next (State.serviceReturn { s with ctl_state := .idle, ctl_phase := .stage })

/-! ### Hooks (R50, R306) -/

/-- The operation a hook's command performs (R50). -/
def HookCmd.instr : HookCmd → Instr
  | .xfer w => .xfer w
  | .message w => decodeBusWord w
  | .sendIn r => .epInSend .epIn r.toList
  | .armOut => .armOut

/-- What R306 lets the running hook do next: HOOK_BOOT issues only transactions, HOOK_EPOUT ends with exactly one ARM_OUT
and sends nothing, HOOK_KEY sends at most once, HOOK_DETENT exactly once. -/
def hookMay (h : Hook) (step : HookStep) (s : State) : Bool :=
  match h, step with
  | .boot, .cmd (.xfer _) => true
  | .boot, .cmd (.message _) => true
  | .boot, .cmd (.sendIn _) => false
  | .boot, .cmd .armOut => false
  | .boot, .done => true
  | .epOut, .cmd (.xfer _) => !s.hook_armed
  | .epOut, .cmd (.message _) => !s.hook_armed
  | .epOut, .cmd (.sendIn _) => false
  | .epOut, .cmd .armOut => !s.hook_armed
  | .epOut, .done => s.hook_armed
  | .key, .cmd (.xfer _) => true
  | .key, .cmd (.message _) => true
  | .key, .cmd (.sendIn _) => !s.hook_sent
  | .key, .cmd .armOut => false
  | .key, .done => true
  | .detent, .cmd (.xfer _) => true
  | .detent, .cmd (.message _) => true
  | .detent, .cmd (.sendIn _) => !s.hook_sent
  | .detent, .cmd .armOut => false
  | .detent, .done => s.hook_sent

/-- What a hook does when the oracle's list is empty: only what R306 makes it do (assumption 8). -/
def forcedStep (h : Hook) (s : State) : HookStep :=
  match h with
  | .boot => .done
  | .epOut => if s.hook_armed then .done else .cmd .armOut
  | .key => .done
  | .detent => if s.hook_sent then .done else .cmd (.sendIn (Config.freeReport s.draws))

/-- The oracle's next answer, and the state with the answer taken. -/
def nextHookStep (h : Hook) (s : State) : HookStep × State :=
  match s.oracle with
  | a :: rest => (a, { s with oracle := rest })
  | [] => (forcedStep h s, { s with draws := s.draws + 1 })

/-- The commands of R306's "must issue" column are noted when they are issued. -/
def State.noteCmd (c : HookCmd) (s : State) : State :=
  match c with
  | .xfer _ => s
  | .message _ => s
  | .sendIn _ => { s with hook_sent := true }
  | .armOut => { s with hook_armed := true }

/-- Where SQ goes when a hook is over (R304, R342). -/
def Hook.after : Hook → SeqState
  | .boot => .sleep
  | .epOut => Service.after .epOut
  | .key => Service.after .key
  | .detent => Service.after .rotary

/-- A hook between two commands: the oracle's next command is performed, or the hook is over. -/
def hookFetch (h : Hook) (s : State) : Result :=
  if hookMay h (nextHookStep h s).1 s then
    match (nextHookStep h s).1 with
    | .cmd c => exec c.instr ((nextHookStep h s).2.noteCmd c)
    | .done => .next { (nextHookStep h s).2 with seq_state := h.after }
  else .refused (.hookContract h)

/-- One step of a running hook (R50): the next command, the collecting transaction of a read (R142), or the step that ends
a wait (R146, R230). -/
def hookStep (h : Hook) (s : State) : Option Result :=
  match s.cmd with
  | .idle => some (hookFetch h s)
  | .collect => some (exec (.xfer s.cfg.BUS_NOP_WORD) s)
  | .busWait after => waitFlag .busDone s (State.finishXfer after)
  | .inStarted => waitFlag .epInStarted s fun t => { t with cmd := .inEnded }
  | .inEnded => waitFlag .epInEnded s fun t => { t with cmd := .idle }

/-- SQ is at one of the waits inside a hook's command. -/
def CmdPos.waiting : CmdPos → Bool
  | .idle => false
  | .busWait _ => true
  | .collect => false
  | .inStarted => true
  | .inEnded => true

/-! ### Boot (R342) -/

/-- A boot command that has run to its end moves SQ from BOOT(i) to BOOT(i+1); `BUS_READ` is two commands (R98). -/
def State.bootAdvance (i : Nat) (s : State) : State :=
  if s.seq_state = .boot i ∧ s.cmd.waiting = false then { s with seq_state := .boot (i + 1) } else s

/-- One step of boot. -/
def bootStep (i : Nat) (s : State) : Option Result :=
  (hookStep .boot s).map fun o => afterNext o (State.bootAdvance i)

/-! ### Service 5 (R177) -/

/-- After `Accumulate`: the detent hook runs when the step is not zero, and nothing further happens when it is. -/
def State.detentOrReturn (s : State) : State :=
  if s.ret_indents = 0 then { s with seq_state := Service.after .rotary } else { s with rot_step := .detent }

/-- One step of service 5: Sample, then Accumulate of its result, then the detent hook. -/
def rotaryStep (s : State) : Option Result :=
  match s.rot_step with
  | .sample => some (afterNext (exec .rotSample s) fun t => { t with rot_step := .accumulate })
  | .accumulate => some (afterNext (exec (.rotAccumulate s.ret_sample) s) State.detentOrReturn)
  | .detent => hookStep .detent s

/-! ### SQ -/

/-- The handler of a service (R304). -/
def runStep (k : Service) (s : State) : Option Result :=
  match k with
  | .usbPower => some (linkStep s)
  | .setup => ctlStep s
  | .epOut => hookStep .epOut s
  | .key => hookStep .key s
  | .rotary => rotaryStep s

/-- The step of SQ where it stands, the abort step of R207 apart. -/
def sqMain (s : State) : Option Result :=
  match s.seq_state with
  | .boot i => bootStep i s
  | .sleep => if s.woken then some (.next { s with seq_state := .poll .usbPower }) else none
  | .poll k => some (pollStep k s)
  | .run k => runStep k s

/-- The step of SQ: where the abort step is open too, `abort` says that SQ prefers it to a step that ends the wait, and SQ
takes it when it is its only step. -/
def sqStep (abort : Bool) (s : State) : Option Result :=
  let t := { s with agent := .sq }
  if abort && t.mayAbort then some (abortStep t)
  else
    match sqMain t with
    | some o => some o
    | none => if t.mayAbort then some (abortStep t) else none

/-- The flag SQ is waiting for, at one of the waits of R302. -/
def State.waitsFor (s : State) : Option Flag :=
  let ofCmd : CmdPos → Option Flag
    | .idle => none
    | .busWait _ => some .busDone
    | .collect => none
    | .inStarted => some .epInStarted
    | .inEnded => some .epInEnded
  match s.seq_state with
  | .boot _ => ofCmd s.cmd
  | .sleep => none
  | .poll _ => none
  | .run .usbPower => none
  | .run .setup =>
    if s.ctl_state = .dataIn then
      match s.ctl_phase with
      | .stage => none
      | .waitStarted => some .ep0Started
      | .waitEnded => some .ep0Ended
      | .waitDataDone => some .ep0DataDone
    else none
  | .run .epOut => ofCmd s.cmd
  | .run .key => ofCmd s.cmd
  | .run .rotary => if s.rot_step = .detent then ofCmd s.cmd else none

/-- SQ has no enabled step and no further turn is to come: at a completion wait the run is stuck (HANG, R302), and in
SLEEP the block is quiescent and goes on sleeping (R302, R325). -/
def blocked (s : State) : Result :=
  match s.waitsFor with
  | some f => .fault (.hang f)
  | none => .next s

/-! ### Placing an operation where SQ takes its next one -/

/-- The state in which SQ's next step dispatches the request `r`: decoded (R206), in service 2, and SQ's turn. -/
def State.placeRequest (s : State) (b : Vector Byte 8) : State :=
  { State.decodeLatch { s with setup_latch := b } with
    seq_state := .run .setup
    refused := none
    schedule := .sq false :: s.schedule }

/-- The state in which SQ's next step issues the bus message `w`: it is the boot hook's next command. -/
def State.placeMessage (s : State) (w : Half) : State :=
  { s with
    seq_state := .boot 0
    refused := none
    cmd := .idle
    schedule := .sq false :: s.schedule
    oracle := .cmd (.message w) :: s.oracle }

end Sys2Proof.Machine
end

