-- ==== Sys2Proof/Machine/Step.lean ====
section
/-! DEFINITION. One step of the block and its environment (R7, R71): the turn that the plain data of the state puts next. -/

namespace Sys2Proof.Machine

/-- The state at the beginning of a step: a port is driven, and a frame is on the pins, for one step (R11). -/
def State.fresh (s : State) : State := { s with emitted := [], wave := [] }

/-- One turn (R7); a reset may come in any state, a refused one among them (R340). -/
def turnStep (t : Turn) (s : State) : Result :=
  match t with
  | .sq abort => s.attempt ((sqStep abort s).getD (.next s))
  | .env e => s.attempt (envStep e s)
  | .reset u chip => .next (s.hardReset u chip)

/-- One step: the next turn of the schedule, and with no turn left SQ's own step.
A turn offered to SQ while it is held passes without effect. -/
def step (s : State) : Host.Outcome State Fault Refusal :=
  match s.schedule with
  | t :: rest => turnStep t { s.fresh with schedule := rest }
  | [] => s.fresh.attempt ((sqStep false s.fresh).getD (blocked s.fresh))

/-- `s` with the operation of an opcode-table word where SQ takes its next operation: a SETUP packet decoded and about to be
dispatched, or a bus message as the boot hook's next command. -/
def State.withFetchWord (s : State) (nbits w : Nat) : State :=
  if nbits = 16 then s.placeMessage (BitVec.ofNat 16 w)
  else if 16 < nbits ∧ nbits ≤ 64 then s.placeRequest (bytesOfNat (w % 2 ^ nbits))
  else s

end Sys2Proof.Machine
end

