-- ==== Sys2Proof/Machine/Command.lean ====
section
/-! DEFINITION. The command syntax of R98, as abstract syntax: what each form does to a state, and how each pseudo-form expands.
The forms are the notation of the spec's test vectors; the machine's own step does not use them. -/

namespace Sys2Proof.Machine

/-- The forms of R98. `accumulateSample` is ACCUMULATE of the result of the last SAMPLE, as `STEP` uses it. -/
inductive Form where
  | setup (tt rr : Byte) (v i l : Half)
  | started (ep : Endpoint)
  | ended (ep : Endpoint)
  | dataDone
  | power
  | key
  | report
  | out (r : Vector Byte 5)
  | pulse (d : Pulse)
  | busEnd (b0 b1 : Byte)
  | xfer (w : Half)
  | sample
  | accumulate (p : I32)
  | accumulateSample
  | set (f : Flag)
  | tac (f : Flag)
  deriving DecidableEq, Repr

/-- The pseudo-forms of R98. -/
inductive Pseudo where
  | getDescriptorDevice (l : Half)
  | getDescriptorConfiguration (ii : Byte) (l : Half)
  | getDescriptorString (ii : Byte) (langid l : Half)
  | getDescriptorReport (iface l : Half)
  | setAddress (a : Half)
  | setConfiguration (v : Half)
  | clearFeature (tt : Byte) (ff ii : Half)
  | setIdle (dd rr : Byte) (ii : Half)
  | busWrite (aa : BitVec 7) (dd : Byte)
  | busRead (aa : BitVec 7)
  | step
  deriving DecidableEq, Repr

/-- What a form does in one step: an event of the environment, or an operation of its agent. -/
def Form.perform (form : Form) (s : State) : Result :=
  match form with
  | .setup tt rr v i l => envStep (.setup (Request.toBytes ⟨tt, rr, v, i, l⟩)) s
  | .started ep => envStep (.epStarted ep) s
  | .ended ep => envStep (.epEnded ep) s
  | .dataDone => envStep .ep0DataDone s
  | .power => envStep .usbPower s
  | .key => envStep .key s
  | .report => envStep .report s
  | .out r => envStep (.epOut r) s
  | .pulse d => envStep (.pulse d) s
  | .busEnd b0 b1 => envStep (.busEnd #v[b0, b1]) s
  | .xfer w => exec (.xfer w) { s with agent := .sq }
  | .sample => exec .rotSample { s with agent := .sq }
  | .accumulate p => exec (.rotAccumulate p) { s with agent := .sq }
  | .accumulateSample => exec (.rotAccumulate s.ret_sample) { s with agent := .sq }
  | .set f => exec (.flagSet f) { s with agent := .env }
  | .tac f => exec (.flagTac f) { s with agent := .sq }

/-- The expansions of R98. -/
def Pseudo.expand (c : Config) : Pseudo → List Form
  | .getDescriptorDevice l => [.setup 0x80 0x06 0x0100 0x0000 l]
  | .getDescriptorConfiguration ii l => [.setup 0x80 0x06 ((0x02 : Byte) ++ ii) 0x0000 l]
  | .getDescriptorString ii langid l => [.setup 0x80 0x06 ((0x03 : Byte) ++ ii) langid l]
  | .getDescriptorReport iface l => [.setup 0x81 0x06 0x2200 iface l]
  | .setAddress a => [.setup 0x00 0x05 a 0x0000 0x0000]
  | .setConfiguration v => [.setup 0x00 0x09 v 0x0000 0x0000]
  | .clearFeature tt ff ii => [.setup tt 0x01 ff ii 0x0000]
  | .setIdle dd rr ii => [.setup 0x21 0x0A (dd ++ rr) ii 0x0000]
  | .busWrite aa dd => [.xfer (busWord 0 aa dd)]
  | .busRead aa => [.xfer (busWord 1 aa 0x00), .xfer c.BUS_NOP_WORD]
  | .step => [.sample, .accumulateSample]

/-- A sequence of forms, one step each, up to the first that has no next state. -/
def performAll : List Form → State → Result
  | [], s => .next s
  | f :: rest, s =>
    match f.perform s with
    | .next t => performAll rest t
    | .fault r => .fault r
    | .refused r => .refused r

end Sys2Proof.Machine
end

