-- ==== Sys2Proof/Machine/Hid.lean ====
section
/-! DEFINITION. HID items (R90 to R92), what the report descriptor must say (R270), the HID report (R93), and which
parameters are ones R6 and the descriptor rules admit. -/

namespace Sys2Proof.Machine

/-! ### Short items (R90) -/

/-- A HID short item: its tag, its type (0 main, 1 global, 2 local) and its data bytes. -/
structure HidItem where
  tag : BitVec 4
  type : BitVec 2
  data : List Byte
  deriving DecidableEq, Repr

/-- The `bSize` code of a number of data bytes (R90). -/
def hidSizeCode : Nat → Option (BitVec 2)
  | 0 => some 0
  | 1 => some 1
  | 2 => some 2
  | 4 => some 3
  | _ => none

/-- The bytes of an item (R90, R91): the prefix `{bTag, bType, bSize}`, then the data; no item has another size. -/
def HidItem.bytes (i : HidItem) : List Byte :=
  match hidSizeCode i.data.length with
  | some c => (i.tag ++ i.type ++ c) :: i.data
  | none => []

/-- The low `n` bytes of a number, the lowest first. -/
def leBytes : Nat → Nat → List Byte
  | 0, _ => []
  | n + 1, v => BitVec.ofNat 8 v :: leBytes n (v / 256)

/-- The number a list of bytes makes, the first byte lowest.
That an item with no data byte holds the value 0 is the model's choice (assumption 34, DESIGN CHOICE). -/
def leValue : List Byte → Nat
  | [] => 0
  | b :: rest => b.toNat + 256 * leValue rest

/-- The bytes an unsigned item value is written in (R92): the fewest of 1, 2 and 4 that hold it.
The value 0 takes one byte, as in R91 and R272. -/
def unsignedData (v : Nat) : List Byte :=
  if v < 256 then leBytes 1 v else if v < 65536 then leBytes 2 v else leBytes 4 v

/-- The bytes a signed item value is written in (R92): the fewest of 1, 2 and 4 that hold it in two's complement. -/
def signedData (v : Int) : List Byte :=
  if -128 ≤ v ∧ v ≤ 127 then leBytes 1 (v % 256).toNat
  else if -32768 ≤ v ∧ v ≤ 32767 then leBytes 2 (v % 65536).toNat
  else leBytes 4 (v % 4294967296).toNat

/-- The signed number the data of an item holds (R92); 0 when it has none (assumption 34). -/
def signedValue (bs : List Byte) : Int :=
  let v : Int := leValue bs
  if (2 : Int) ^ (8 * bs.length) ≤ 2 * v then v - 2 ^ (8 * bs.length) else v

/-- The items of a byte string, `none` when it is not a sequence of short items (R90, R97).
A reserved item type, which the prefix of a long item has too, is none (R96). The first argument bounds the number of items. -/
def hidItems : Nat → List Byte → Option (List HidItem)
  | _, [] => some []
  | 0, _ :: _ => none
  | fuel + 1, p :: rest =>
    let type : BitVec 2 := p.extractLsb' 2 2
    let code : BitVec 2 := p.extractLsb' 0 2
    let n := if code = 3 then 4 else code.toNat
    if type = 3 ∨ rest.length < n then none
    else (hidItems fuel (rest.drop n)).map (⟨p.extractLsb' 4 4, type, rest.take n⟩ :: ·)

/-! ### What the report descriptor declares (R270) -/

/-- The global items in force; they persist until changed (R273), and one that no item has set yet is `none`: it is not
declared. -/
structure HidGlobals where
  usagePage : Option Nat
  logicalMin : Option Int
  logicalMax : Option Int
  reportSize : Option Nat
  reportCount : Option Nat
  deriving DecidableEq, Repr

/-- Before the first item nothing is declared. -/
def HidGlobals.unset : HidGlobals := ⟨none, none, none, none, none⟩

/-- What a report descriptor declares: the fields of its Input and Output items, and whether it uses a report ID. -/
structure HidDeclared where
  inputs : List HidGlobals
  outputs : List HidGlobals
  reportId : Bool
  deriving DecidableEq, Repr

/-- The effect of one item, by the tags of R91. The spec leaves open, for an overriding REPORT_DESC, and the model chooses:
global tag 8 is Report ID, and every item R91 does not list (Push and Pop of the globals, Feature, units, delimiters) changes
nothing that is declared (assumption 28); Collection and End Collection change nothing either, so that no field need stand
in a collection, which R270 quotes but does not list (assumption 31); the flag byte of an Input or Output item is not looked
at, and R272 gives only the default's 0x02 (assumption 33); and a value may stand in more bytes than R92 uses, or in none
(assumption 34). All are DESIGN CHOICE. -/
def hidApply (g : HidGlobals) (d : HidDeclared) (i : HidItem) : HidGlobals × HidDeclared :=
  if i.type = 1 then
    if i.tag = 0x0 then ({ g with usagePage := some (leValue i.data) }, d)
    else if i.tag = 0x1 then ({ g with logicalMin := some (signedValue i.data) }, d)
    else if i.tag = 0x2 then ({ g with logicalMax := some (signedValue i.data) }, d)
    else if i.tag = 0x7 then ({ g with reportSize := some (leValue i.data) }, d)
    else if i.tag = 0x8 then (g, { d with reportId := true })
    else if i.tag = 0x9 then ({ g with reportCount := some (leValue i.data) }, d)
    else (g, d)
  else if i.type = 0 then
    if i.tag = 0x8 then (g, { d with inputs := d.inputs ++ [g] })
    else if i.tag = 0x9 then (g, { d with outputs := d.outputs ++ [g] })
    else (g, d)
  else (g, d)

/-- What a sequence of items declares. -/
def hidDeclares (g : HidGlobals) (d : HidDeclared) : List HidItem → HidDeclared
  | [] => d
  | i :: rest => hidDeclares (hidApply g d i).1 (hidApply g d i).2 rest

/-- A field of R270: on a vendor-defined page, 2 fields of 20 bits, logical range 0 to 999999, each of them set by an item.
The spec names one vendor-defined page, 0xFF00 (R272); that the pages 0xFF00 to 0xFFFF all count as vendor-defined is the
model's choice (assumption 27, PRESUMED). -/
def hidFieldOk (g : HidGlobals) : Bool :=
  g.usagePage.any (fun page => decide (0xFF00 ≤ page ∧ page ≤ 0xFFFF)) && decide (g.logicalMin = some 0) &&
    decide (g.logicalMax = some 999999) && decide (g.reportSize = some 20) && decide (g.reportCount = some 2)

/-- A byte string that may be the report descriptor (R270, R271): one Input and one Output, each as R270 says, and no
report ID. -/
def reportDescOk (bs : List Byte) : Bool :=
  match hidItems bs.length bs with
  | none => false
  | some items =>
    match hidDeclares .unset ⟨[], [], false⟩ items with
    | ⟨[i], [o], false⟩ => hidFieldOk i && hidFieldOk o
    | _ => false

/-- The items of the default report descriptor (R272). -/
def defaultItems : List HidItem :=
  [⟨0x0, 1, unsignedData 0xFF00⟩, ⟨0x0, 2, unsignedData 1⟩, ⟨0xA, 0, unsignedData 1⟩,
   ⟨0x1, 1, signedData 0⟩, ⟨0x2, 1, signedData 999999⟩, ⟨0x7, 1, unsignedData 20⟩, ⟨0x9, 1, unsignedData 2⟩] ++
  [⟨0x0, 2, unsignedData 1⟩, ⟨0x8, 0, unsignedData 2⟩, ⟨0x0, 2, unsignedData 1⟩, ⟨0x9, 0, unsignedData 2⟩,
   ⟨0xC, 0, []⟩]

/-! ### Parameters -/

/-- The parameters the rules admit: texts of at most 126 units (R267), endpoint addresses of the right direction (R265), a
report descriptor that says what R270 asks, and a no-op word that is a write to a known address (R89). -/
def configOk (c : Config) : Bool :=
  decide (c.MFR_STRING.length ≤ 126) && decide (c.PRODUCT_STRING.length ≤ 126) && reportDescOk c.REPORT_DESC &&
    !c.EP_OUT_ADDR.getLsbD 7 && c.EP_IN_ADDR.getLsbD 7 && !c.BUS_NOP_WORD.getLsbD 15 &&
    c.BUS_ADDR_SET[(c.BUS_NOP_WORD.extractLsb' 8 7).toNat]'(BitVec.isLt _)

/-! ### The HID report (R93) -/

/-- The five report bytes that carry two 20-bit values. -/
def packReport (v0 v1 : BitVec 20) : Vector Byte 5 :=
  #v[v0.extractLsb' 0 8, v0.extractLsb' 8 8, v1.extractLsb' 0 4 ++ v0.extractLsb' 16 4, v1.extractLsb' 4 8,
     v1.extractLsb' 12 8]

/-- `v0` of a report. -/
def reportV0 (r : Vector Byte 5) : BitVec 20 := r[2].extractLsb' 0 4 ++ r[1] ++ r[0]

/-- `v1` of a report. -/
def reportV1 (r : Vector Byte 5) : BitVec 20 := r[4] ++ r[3] ++ r[2].extractLsb' 4 4

end Sys2Proof.Machine
end

