-- ==== Sys2Proof/Safety.lean ====
section
/-! DEFINITION. The terms that statements about the block use: what counts as a safe run, the invariant of the block, and
the packets a run sends. -/

namespace Sys2Proof.Machine

/-- No entry of class FAULT is logged: the premise R301 gives claims. -/
def State.noFault (s : State) : Bool := s.fault_log.all LogEntry.isStall

/-- An entry that says two bus transactions would have overlapped (R144). -/
def LogEntry.isBusBusy : LogEntry → Bool
  | .busBusy _ => true
  | .stallUnmatched _ => false
  | .stallBadConfig _ => false
  | .stallBadDescIndex _ _ => false
  | .stallUnsupportedDesc _ _ => false
  | .pulseOverflow _ _ => false
  | .accOverflow _ _ => false

/-- The registers stay in the legal values of R42, and the bits say what their rules say they mean. -/
structure State.Inv (s : State) : Prop where
  /-- R174 -/
  acc : -3 ≤ s.rot_acc.toInt ∧ s.rot_acc.toInt ≤ 3
  /-- R28 -/
  ep0Len : s.ep0_len.toNat ≤ 64
  /-- R42 -/
  replyOff : s.reply_off.toNat ≤ s.reply_len.toNat
  /-- R206: a decoded request starts with no byte sent -/
  decoded : s.ctl_state = .setupDecoded → s.reply_off = 0
  /-- R36, R240: the indicator is lit exactly when a stall was logged -/
  led : s.fault_led = s.fault_log.any LogEntry.isStall
  /-- R32, R140: a transaction is in flight only while SQ waits for it -/
  busOwner : s.bus_busy = true → ∃ after, s.cmd = .busWait after
  /-- R49, R145: no completion is pending while a transaction is in flight -/
  busDone : s.bus_busy = true → s.flag .busDone = false
  /-- R140, R144 -/
  noBusBusy : s.fault_log.any LogEntry.isBusBusy = false
  /-- R202: a transfer in progress is service 2's -/
  transfer : s.ctl_state ≠ .idle → s.ctl_state ≠ .stalled → s.seq_state = .run .setup
  /-- R252, R213: the reply is an entry of the table and no longer than it -/
  reply : s.ctl_state = .dataIn → ∃ id, s.reply_src = some id ∧ s.reply_len.toNat ≤ (descRom s.cfg id).length
  /-- R213, R216: the packet in flight lies inside the reply -/
  packet : s.ctl_state = .dataIn → s.ctl_phase ≠ .stage → s.reply_off.toNat + s.ep0_len.toNat ≤ s.reply_len.toNat
  /-- R29, R49, R231: nothing is armed or received on the OUT endpoint before the device is configured -/
  outConfigured :
    s.out_armed = true ∨ s.flag .epOut = true ∨ s.seq_state = .run .epOut → s.configured = true
  /-- R31: no request is seen before the link is started -/
  linkFirst :
    s.flag .setup = true ∨ s.seq_state = .run .setup ∨ s.ctl_state ≠ .idle ∨ s.configured = true →
      s.link_started = true
  /-- R60, R125, R143: no rule leaves an address space or writes a flag as the wrong agent, so a state is refused only for an
  unknown bus address -/
  refusal : ∀ r, s.refused = some r → ∃ w, r = .busUnknownAddr w

/-- The completion flags of EP0 and the completions still owed for it agree: one transfer's completions are sent in order,
none is pending outside a transfer, and each is consumed once (R49, R77, R213 to R216).
It speaks of a block whose transfers are not aborted (R207). -/
def State.ep0Owned (s : State) : Prop :=
  let flags := (s.flag .ep0Started, s.flag .ep0Ended, s.flag .ep0DataDone)
  if s.ctl_state = .dataIn then
    match s.ctl_phase with
    | .stage => s.ep0_owed = [] ∧ flags = (false, false, false)
    | .waitStarted =>
      (s.ep0_owed = [.started] ∧ flags = (false, false, false)) ∨
      (s.ep0_owed = [.ended] ∧ flags = (true, false, false)) ∨
      (s.ep0_owed = [.dataDone] ∧ flags = (true, true, false)) ∨ (s.ep0_owed = [] ∧ flags = (true, true, true))
    | .waitEnded =>
      (s.ep0_owed = [.ended] ∧ flags = (false, false, false)) ∨
      (s.ep0_owed = [.dataDone] ∧ flags = (false, true, false)) ∨ (s.ep0_owed = [] ∧ flags = (false, true, true))
    | .waitDataDone =>
      (s.ep0_owed = [.dataDone] ∧ flags = (false, false, false)) ∨ (s.ep0_owed = [] ∧ flags = (false, false, true))
  else s.ep0_owed = [] ∧ flags = (false, false, false)

/-- SQ makes the next step, without a preference for the abort step: the state is not refused, and it is SQ's turn, or no
turn is left; `rest` is the schedule after the step. -/
def State.sqMoves (s : State) (rest : List Turn) : Prop :=
  s.refused = none ∧ (s.schedule = .sq false :: rest ∨ (s.schedule = [] ∧ rest = []))

/-- The environment makes the next step, with the event `e`. -/
def State.envMoves (s : State) (e : EnvEvent) (rest : List Turn) : Prop :=
  s.refused = none ∧ s.schedule = .env e :: rest

/-- `s` after a turn that passes without effect. -/
def State.passed (s : State) (rest : List Turn) : State := { s with emitted := [], wave := [], schedule := rest }

/-- `s` as the step that SQ makes finds it. -/
def State.sqTurn (s : State) (rest : List Turn) : State :=
  { s with emitted := [], wave := [], schedule := rest, agent := .sq }

/-- `s` as the step that the environment makes finds it. -/
def State.envTurn (s : State) (rest : List Turn) : State :=
  { s with emitted := [], wave := [], schedule := rest, agent := .env }

/-- The three operations that start a bus transaction, with the word each sends and what follows its result: `XFER w`
(R145), `BUS_WRITE` with the word `256 * addr + data` (R141), and `BUS_READ` with the selector bit on top (R142). -/
def startsTransaction (i : Instr) (w : Half) (after : AfterXfer) : Prop :=
  (i = .xfer w ∧ after = .caller) ∨
  (∃ a d, i = .busWrite a d ∧ w.toNat = 256 * a.toNat + d.toNat ∧ after = .caller) ∨
  (∃ a d, i = .busRead a d ∧ w.toNat = 32768 + 256 * a.toNat + d.toNat ∧ after = .collect)

/-- The operation a hook's command stands for (R50): a bus message is the operation its word decodes to. -/
def commandPerforms (c : HookCmd) (i : Instr) : Prop :=
  (∃ w, c = .xfer w ∧ i = .xfer w) ∨ (∃ w, c = .message w ∧ decode [highByte w, lowByte w] = .instr i) ∨
  (∃ r, c = .sendIn r ∧ i = .epInSend .epIn r.toList) ∨ (c = .armOut ∧ i = .armOut)

/-- The commands that R306 forbids the running hook: `ARM_OUT` outside HOOK_EPOUT, `SEND_IN` in HOOK_BOOT and HOOK_EPOUT,
anything after the `ARM_OUT`, and a second `SEND_IN`. -/
def forbiddenCommand (h : Hook) (c : HookCmd) (s : State) : Prop :=
  (c = .armOut ∧ h ≠ .epOut) ∨ ((∃ r, c = .sendIn r) ∧ (h = .boot ∨ h = .epOut)) ∨
  (h = .epOut ∧ s.hook_armed = true) ∨ ((∃ r, c = .sendIn r) ∧ s.hook_sent = true)

/-- `k` steps, and what the ports drove in them, in order. -/
def runPorts : Nat → State → Option (List Emit × State)
  | 0, s => some ([], s)
  | k + 1, s =>
    match step s with
    | .next t =>
      match runPorts k t with
      | some (es, u) => some (t.emitted ++ es, u)
      | none => none
    | .fault _ => none
    | .refused _ => none

/-- The bytes the ports handed to EP0, in order (R48). -/
def ep0Bytes : List Emit → List Byte
  | [] => []
  | .epInStart .ep0 bytes :: rest => bytes ++ ep0Bytes rest
  | .epInStart .epIn _ :: rest => ep0Bytes rest
  | .usbLinkStart :: rest => ep0Bytes rest
  | .ep0Status :: rest => ep0Bytes rest
  | .ep0Stall :: rest => ep0Bytes rest
  | .epEnable :: rest => ep0Bytes rest
  | .epOutArm :: rest => ep0Bytes rest
  | .busStart _ :: rest => ep0Bytes rest

/-- The turns that carry one EP0 packet when the environment completes it at once: SQ stages it and then consumes each
completion as it comes (R213 to R216). -/
def packetTurns : List Turn :=
  [.sq false, .env (.epStarted .ep0), .sq false, .env (.epEnded .ep0), .sq false, .env .ep0DataDone, .sq false]

/-- The turns that carry `n` packets. -/
def packetsTurns : Nat → List Turn
  | 0 => []
  | n + 1 => packetTurns ++ packetsTurns n

/-- The dispatch of R87 as the source words it: "a two-level table first on (direction, type) then, within the matched
handler, on request code", and GetDescriptor "by recipient (device vs. interface) then by descriptor type". -/
def twoLevelDispatch (r : Request) : RequestRow :=
  if r.dir = false then
    if r.type = 0 then
      if r.bRequest = 0x05 then .setAddress
      else if r.bRequest = 0x09 then .setConfiguration
      else if r.bRequest = 0x01 then .clearFeature
      else .unmatched
    else if r.type = 1 then
      if r.bRequest = 0x0A then .setIdle else .unmatched
    else .unmatched
  else if r.type = 0 ∧ r.bRequest = 0x06 then
    if r.recipient = 0 then
      if r.descType = 0x01 then .getDescriptorDevice
      else if r.descType = 0x02 then .getDescriptorConfiguration
      else if r.descType = 0x03 then .getDescriptorString
      else if r.descType = 0x06 then .getDescriptorDeviceQualifier
      else .getDescriptorOther
    else if r.recipient = 1 then
      if r.descType = 0x22 then .getDescriptorReport else .getDescriptorOther
    else .unmatched
  else .unmatched

/-- The entry of the descriptor table that a request asks for, when its row and its index name one (R251, R253). -/
def servedEntry (r : Request) : Option DescId :=
  match r.row with
  | .getDescriptorDevice => if r.descIndex = 0 then some .dev else none
  | .getDescriptorConfiguration => if r.descIndex = 0 then some .cfg else none
  | .getDescriptorString =>
    if r.descIndex = 0 then some .str0
    else if r.descIndex = 1 then some .str1
    else if r.descIndex = 2 then some .str2
    else none
  | .getDescriptorReport => if r.descIndex = 0 then some .rpt else none
  | .setAddress => none
  | .setConfiguration => none
  | .clearFeature => none
  | .setIdle => none
  | .getDescriptorDeviceQualifier => none
  | .getDescriptorOther => none
  | .unmatched => none

/-- The requests that go to the status stage at once (R200, second and third line). -/
def acknowledgedAtOnce (r : Request) : Prop :=
  r.row = .setAddress ∨ r.row = .clearFeature ∨ r.row = .setIdle ∨
    (r.row = .setConfiguration ∧ r.wValue = CONFIG_VALUE)

/-- The table of R200: from which value of `ctl_state` a step goes to which, and on which condition. -/
def ctlTable (s t : State) : Prop :=
  match s.ctl_state, t.ctl_state with
  | .idle, .setupDecoded => s.seq_state = .run .setup
  | .stalled, .setupDecoded => s.seq_state = .run .setup
  | .setupDecoded, .status =>
    acknowledgedAtOnce s.req ∨ (∃ id, servedEntry s.req = some id ∧ t.reply_src = some id ∧ t.reply_len = 0)
  | .setupDecoded, .dataIn =>
    ∃ id, servedEntry s.req = some id ∧ t.reply_src = some id ∧ t.reply_len ≠ 0 ∧ t.ctl_phase = .stage
  | .setupDecoded, .stalled => ¬ acknowledgedAtOnce s.req ∧ servedEntry s.req = none
  | .dataIn, .status =>
    s.ctl_phase = .waitDataDone ∧ s.flag .ep0DataDone = true ∧ t.reply_len.toNat ≤ t.reply_off.toNat ∧
      s.zlp_pending = false
  | .dataIn, .idle => s.cfg.SETUP_ABORTS = true ∧ s.flag .setup = true ∧ s.ctl_phase ≠ .stage
  | .status, .idle => True
  | a, b => a = b

end Sys2Proof.Machine
end

