-- ==== Sys2Proof/Certificates/Slice0/Obligations.lean ====
section
/-! DEFINITION. The statements about the block that the provers are asked for.

`t = { s with a := t.a, … }` says that every field of the state but the named ones is as it was: that is each
statement's frame. `sqMoves` and `envMoves` say whose step it is, in a state that is not refused. -/

open Sys2Proof Sys2Proof.Machine

/-! ### Signal Flags -/

/-- R120: FLAG_SET by the environment leaves the flag 1, whatever it was, and writes nothing else. -/
def Obligations.FlagSetSetsOnlyItsFlag : Prop :=
  ∀ (f : Flag) (s : State), s.agent = .env →
    ∃ t, exec (.flagSet f) s = .next t ∧ t.flag f = true ∧ (∀ g, g ≠ f → t.flag g = s.flag g) ∧
      t = { s with flags := t.flags }

/-- R121: FLAG_TAC by SQ returns the flag's value, leaves the flag 0, and writes nothing else. -/
def Obligations.FlagTacReturnsAndClears : Prop :=
  ∀ (f : Flag) (s : State), s.agent = .sq →
    ∃ t, exec (.flagTac f) s = .next t ∧ t.ret_flag = s.flag f ∧ t.flag f = false ∧
      (∀ g, g ≠ f → t.flag g = s.flag g) ∧ t = { s with flags := t.flags, ret_flag := t.ret_flag }

/-- R176: ROT_HAS_REPORT is the `TestAndClear` of `FL_ROT_REPORT`. -/
def Obligations.HasReportConsumesTheReportFlag : Prop :=
  ∀ s : State, s.agent = .sq →
    ∃ t, exec .rotHasReport s = .next t ∧ t.ret_flag = s.flag .rotReport ∧ t.flag .rotReport = false ∧
      (∀ g, g ≠ .rotReport → t.flag g = s.flag g) ∧ t = { s with flags := t.flags, ret_flag := t.ret_flag }

/-- R125: SQ never sets a flag and the environment never clears one: each such attempt is refused, in every operation
that writes a flag. The last clauses speak of operations that would otherwise go well. -/
def Obligations.FlagWritersAreSeparated : Prop :=
  (∀ (f : Flag) (s : State), s.agent = .sq → exec (.flagSet f) s = .refused (.flagWriter f)) ∧
  (∀ (f : Flag) (s : State), s.agent = .env → exec (.flagTac f) s = .refused (.flagWriter f)) ∧
  (∀ s : State, s.agent = .env → exec .rotHasReport s = .refused (.flagWriter .rotReport)) ∧
  (∀ (i : Instr) (w : Half) (after : AfterXfer) (s : State), startsTransaction i w after → s.agent = .env →
    s.bus_busy = false → s.cfg.BUS_ADDR_SET[(w.extractLsb' 8 7).toNat]'(BitVec.isLt _) = true →
      exec i s = .refused (.flagWriter .busDone)) ∧
  (∀ (bytes : List Byte) (s : State), s.agent = .env → bytes.length ≤ 64 →
    exec (.epInSend .ep0 bytes) s = .refused (.flagWriter .ep0Started)) ∧
  (∀ (bytes : List Byte) (s : State), s.agent = .env → bytes.length ≤ 5 →
    exec (.epInSend .epIn bytes) s = .refused (.flagWriter .epInStarted))

/-- R122: a Set before a TestAndClear is consumed by it, and one after it stays for the next: it is never lost. -/
def Obligations.SetIsNeverLost : Prop :=
  ∀ (f : Flag) (s : State),
    (∃ t, performAll [.set f, .tac f] s = .next t ∧ t.ret_flag = true ∧ t.flag f = false) ∧
    (∃ t, performAll [.tac f, .set f] s = .next t ∧ t.ret_flag = s.flag f ∧ t.flag f = true)

/-! ### The bus transactor -/

/-- R141, R142, R145: XFER, BUS_WRITE and BUS_READ start one transaction each. The word sent is the operand, or
`rw * 2^15 + addr * 2^8 + data`; its high byte is staged first; the completion flag is cleared, the bus is busy, and SQ
stands at the wait. Nothing else is written. -/
def Obligations.TransactionStarts : Prop :=
  ∀ (i : Instr) (w : Half) (after : AfterXfer) (s : State),
    startsTransaction i w after → s.agent = .sq → s.bus_busy = false →
    s.cfg.BUS_ADDR_SET[(w.extractLsb' 8 7).toNat]'(BitVec.isLt _) = true →
    ∃ t, exec i s = .next t ∧ t.bus_txbuf[0].toNat = w.toNat / 256 ∧ t.bus_txbuf[1].toNat = w.toNat % 256 ∧
      t.bus_busy = true ∧ t.flag .busDone = false ∧ (∀ g, g ≠ .busDone → t.flag g = s.flag g) ∧
      t.emitted = s.emitted ++ [.busStart t.bus_txbuf] ∧ t.cmd = .busWait after ∧
      t = { s with
        flags := t.flags, bus_txbuf := t.bus_txbuf, bus_busy := t.bus_busy, emitted := t.emitted, cmd := t.cmd }

/-- R144, R301: a transaction started while one is in flight, by XFER, BUS_WRITE or BUS_READ, is the FAULT BUS_BUSY. It is
logged, nothing is staged, emitted or cleared, the indicator is not lit, and the run goes on; the word returned is a free
value (assumption 4). That a BUS_READ then goes on to its collecting transaction is the model's reading
(assumption 12). -/
def Obligations.TransactionWhileBusyIsLogged : Prop :=
  ∀ (i : Instr) (w : Half) (after : AfterXfer) (s : State), startsTransaction i w after → s.bus_busy = true →
    s.cfg.BUS_ADDR_SET[(w.extractLsb' 8 7).toNat]'(BitVec.isLt _) = true →
    ∃ t, exec i s = .next t ∧ t.fault_log = s.fault_log ++ [.busBusy w] ∧
      t.ret_word = Config.freeWord s.draws ∧ t.cmd = (match after with | .caller => .idle | .collect => .collect) ∧
      t = { s with fault_log := t.fault_log, ret_word := t.ret_word, cmd := t.cmd, draws := t.draws }

/-- R143: XFER, BUS_WRITE or BUS_READ with an address the peripheral does not know is refused, whatever else holds. That
it is refused on a busy bus too, the address being checked before the busy bit, is the model's choice (assumption 17). -/
def Obligations.UnknownAddressIsRefused : Prop :=
  ∀ (i : Instr) (w : Half) (after : AfterXfer) (s : State), startsTransaction i w after →
    s.cfg.BUS_ADDR_SET[(w.extractLsb' 8 7).toNat]'(BitVec.isLt _) = false → exec i s = .refused (.busUnknownAddr w)

/-- R64, R88: the message word has the selector on top, then the address, then the data byte; staging it and collecting it
again gives it back. -/
def Obligations.BusWordLayout : Prop :=
  (∀ (rw : BitVec 1) (a : BitVec 7) (d : Byte),
    (busWord rw a d).toNat = 32768 * rw.toNat + 256 * a.toNat + d.toNat ∧ busAddr (busWord rw a d) = a ∧
      lowByte (busWord rw a d) = d ∧ (busWord rw a d).getLsbD 15 = (rw == 1)) ∧
  (∀ w : Half, wordOfBus (busBytes w) = w)

/-- R148, R149: a frame has 16 rising clock edges, at which MOSI carries the word most significant bit first and both
ends sample; the clock is low and the chip select released at both ends, and the chip select is asserted at every level
between them; the bytes received are the word the chip sent. That the chip select is active low is presumed, and that the
two data lines are low at both ends (`pinsIdle`) is the model's choice (assumption 15). -/
def Obligations.BusFrameIsSixteenBitsMsbFirst : Prop :=
  ∀ w miso : Half,
    (risingSamples (busFrame w miso)).map Prod.fst = (List.range 16).map (fun i => w.getLsbD (15 - i)) ∧
    (busFrame w miso).head? = some pinsIdle ∧ (busFrame w miso).getLast? = some pinsIdle ∧
    (∀ p ∈ (busFrame w miso).tail.dropLast, p.cs = false) ∧
    (∀ p ∈ busFrame w miso, p.sck = true → p.cs = false) ∧ receivedBytes (busFrame w miso) = busBytes miso

/-- R146, R147: at the wait of a transaction SQ's step is held while `FL_BUS_DONE` is 0; once it is 1 the step consumes it
and returns the two received bytes, the first one high. SQ stays in its service, and in boot, where the command has run to
its end, BOOT(n) moves on to BOOT(n+1) (R342). That a turn of SQ passes while SQ is held is the model's choice
(assumption 2), that the wait and its result are one step is its reading (assumption 5), and so is that a read goes on to its
collecting transaction, which counts as a command of boot (assumption 12). -/
def Obligations.TransactionReturnsTheReceivedWord : Prop :=
  ∀ (s : State) (h : Hook) (after : AfterXfer) (rest : List Turn),
    s.refused = none → s.schedule = .sq false :: rest → s.atHook = some h → s.cmd = .busWait after →
    (s.flag .busDone = false → step s = .next { s with emitted := [], wave := [], schedule := rest }) ∧
    (s.flag .busDone = true →
      ∃ t, step s = .next t ∧ t.bus_result.toNat = 256 * s.bus_rxbuf[0].toNat + s.bus_rxbuf[1].toNat ∧
        t.ret_word = t.bus_result ∧ t.cmd = (match after with | .caller => .idle | .collect => .collect) ∧
        t.flag .busDone = false ∧ (∀ g, g ≠ .busDone → t.flag g = s.flag g) ∧
        (h ≠ .boot → t.seq_state = s.seq_state) ∧
        (∀ n, s.seq_state = .boot n → t.seq_state = .boot (n + 1)) ∧
        t = { s.sqTurn rest with
          flags := t.flags, bus_result := t.bus_result, ret_word := t.ret_word, cmd := t.cmd
          seq_state := t.seq_state })

/-- R142, R150, R350: a hook's `BUS_READ a` is two transactions, and the value it gets is the one the peripheral
answers in the second. Whatever the peripheral's registers hold and whatever the free bits of its answers are, an
environment that keeps the contract of R150 gives the reader the register it asked for. One hook command standing for
both transactions is the model's reading (assumption 12), and so is the count of the steps, each wait being one step with
its result (assumption 5). -/
def Obligations.BusReadIsOneTransactionLate : Prop :=
  ∀ (s : State) (h : Hook) (a : BitVec 7) (orest : List HookStep) (rest : List Turn) (rx1 rx2 : Vector Byte 2)
    (regValue : BitVec 7 → Byte),
    s.refused = none → s.atHook = some h → s.cmd = .idle → s.bus_busy = false →
    s.oracle = .cmd (.message (busWord 1 a 0)) :: orest → ¬ forbiddenCommand h (.message (busWord 1 a 0)) s →
    s.cfg.BUS_ADDR_SET[a.toNat]'a.isLt = true → knowsAddr s.cfg (busAddr s.cfg.BUS_NOP_WORD) = true →
    s.schedule = .sq false :: .env (.busEnd rx1) :: .sq false :: .sq false :: .env (.busEnd rx2) :: .sq false :: rest →
    periphContract s.periph_prev regValue rx1 → periphContract (some (busWord 1 a 0)) regValue rx2 →
    ∃ es t, runPorts 6 s = some (es, t) ∧ t.readValue = regValue a ∧ t.cmd = .idle ∧ t.bus_busy = false ∧
      t.periph_prev = some s.cfg.BUS_NOP_WORD ∧
      es = [.busStart (busBytes (busWord 1 a 0)), .busStart (busBytes s.cfg.BUS_NOP_WORD)]

/-! ### The rotary accumulator -/

/-- R170: a pulse moves the counter by one; at the edge of the range it is logged and the counter keeps its value. -/
def Obligations.PulseIsCountedOrLogged : Prop :=
  ∀ (d : Pulse) (s : State),
    let v : Int := match d with | .plus => 1 | .minus => -1
    (-2147483648 ≤ s.rot_cnt.toInt + v → s.rot_cnt.toInt + v ≤ 2147483647 →
      ∃ t, exec (.rotPulse d) s = .next t ∧ t.rot_cnt.toInt = s.rot_cnt.toInt + v ∧
        t = { s with rot_cnt := t.rot_cnt }) ∧
    (s.rot_cnt.toInt + v < -2147483648 ∨ 2147483647 < s.rot_cnt.toInt + v →
      exec (.rotPulse d) s = .next { s with fault_log := s.fault_log ++ [.pulseOverflow s.rot_cnt d] })

/-- R172: Sample returns the counter and clears it in one step. -/
def Obligations.SampleReadsAndClears : Prop :=
  ∀ s : State, ∃ t, exec .rotSample s = .next t ∧ t.ret_sample = s.rot_cnt ∧ t.rot_cnt.toInt = 0 ∧
    t = { s with rot_cnt := t.rot_cnt, ret_sample := t.ret_sample }

/-- R173, R174, R175, R179: Accumulate splits the sum into whole detents and a remainder smaller than a detent that does not
have the other sign (which fixes truncation toward zero); a sum outside `i32` is logged, keeps the accumulator and
returns 0. -/
def Obligations.AccumulateSplitsTheSum : Prop :=
  ∀ (p : I32) (s : State),
    let sum := s.rot_acc.toInt + p.toInt
    (-2147483648 ≤ sum → sum ≤ 2147483647 →
      ∃ t, exec (.rotAccumulate p) s = .next t ∧ 4 * t.ret_indents.toInt + t.rot_acc.toInt = sum ∧
        -3 ≤ t.rot_acc.toInt ∧ t.rot_acc.toInt ≤ 3 ∧ (0 ≤ sum → 0 ≤ t.rot_acc.toInt) ∧
        (sum ≤ 0 → t.rot_acc.toInt ≤ 0) ∧ t = { s with rot_acc := t.rot_acc, ret_indents := t.ret_indents }) ∧
    (sum < -2147483648 ∨ 2147483647 < sum →
      exec (.rotAccumulate p) s =
        .next { s with fault_log := s.fault_log ++ [.accOverflow s.rot_acc p], ret_indents := 0 })

/-- R177: the two steps of service 5 before its hook take every counted pulse into whole detents and the remainder; with no
whole detent the service is over and no hook runs; otherwise the detent hook is next, with the detents as its argument.
That SQ is back in SLEEP (R304) in the very step of Accumulate is the model's reading (assumption 6). -/
def Obligations.RotaryServiceKeepsEveryPulse : Prop :=
  ∀ (s : State) (rest : List Turn),
    s.refused = none → s.schedule = .sq false :: .sq false :: rest → s.seq_state = .run .rotary → s.rot_step = .sample →
    -2147483648 ≤ s.rot_acc.toInt + s.rot_cnt.toInt → s.rot_acc.toInt + s.rot_cnt.toInt ≤ 2147483647 →
    ∃ t, runPorts 2 s = some ([], t) ∧ t.rot_cnt.toInt = 0 ∧
      4 * t.ret_indents.toInt + t.rot_acc.toInt = s.rot_acc.toInt + s.rot_cnt.toInt ∧
      (t.ret_indents = 0 → t.seq_state = .sleep) ∧
      (t.ret_indents ≠ 0 → t.seq_state = .run .rotary ∧ t.rot_step = .detent ∧ t.atHook = some .detent) ∧
      t.oracle = s.oracle ∧ t.fault_log = s.fault_log ∧ t.flags = s.flags

/-! ### Requests -/

/-- R220, R222, R223: SET_ADDRESS, CLEAR_FEATURE and SET_IDLE, with any operands, go to the status stage and write
nothing else. -/
def Obligations.AcknowledgedRequestsOnlyMoveToStatus : Prop :=
  ∀ (rc : BitVec 5) (v x l : Half) (s : State),
    exec (.setAddress rc v x l) s = .next { s with ctl_state := .status } ∧
    exec (.clearFeature rc v x l) s = .next { s with ctl_state := .status } ∧
    exec (.setIdle rc v x l) s = .next { s with ctl_state := .status }

/-- R221: SET_CONFIGURATION with the value 1 configures the device and arms the OUT buffer; any other 16-bit value
stalls with STALL_BAD_CONFIG. -/
def Obligations.SetConfigurationAcceptsOnlyOne : Prop :=
  ∀ (rc : BitVec 5) (v x l : Half) (s : State),
    (v.toNat = 1 → exec (.setConfiguration rc v x l) s = .next { s with
      configured := true, out_armed := true, ctl_state := .status
      emitted := s.emitted ++ [.epEnable, .epOutArm] }) ∧
    (v.toNat ≠ 1 → exec (.setConfiguration rc v x l) s = .next { s with
      emitted := s.emitted ++ [.ep0Stall], fault_led := true, ctl_state := .stalled
      fault_log := s.fault_log ++ [.stallBadConfig v] })

/-- R224, R240, R241, R300: an unmatched request stalls EP0, lights the indicator, logs the eight SETUP bytes, low bytes
first, and writes nothing else. -/
def Obligations.UnmatchedRequestStalls : Prop :=
  ∀ (bm br : Byte) (v x l : Half) (s : State),
    ∃ t b, exec (.unmatched bm br v x l) s = .next t ∧ t.emitted = s.emitted ++ [.ep0Stall] ∧ t.fault_led = true ∧
      t.ctl_state = .stalled ∧ t.fault_log = s.fault_log ++ [.stallUnmatched b] ∧ b[0] = bm ∧ b[1] = br ∧
      256 * b[3].toNat + b[2].toNat = v.toNat ∧ 256 * b[5].toNat + b[4].toNat = x.toNat ∧
      256 * b[7].toNat + b[6].toNat = l.toNat ∧
      t = { s with
        emitted := t.emitted, fault_led := t.fault_led, ctl_state := t.ctl_state, fault_log := t.fault_log }

/-- R212, R252, R254 to R257: a GET_DESCRIPTOR whose index names an entry replies with the entry, truncated to wLength. A
reply of no byte goes straight to the status stage; any other enters the data stage, with a zero-length packet to come
exactly when the reply is short and of whole packets. -/
def Obligations.ServedDescriptorReply : Prop :=
  ∀ (i : Instr) (id : DescId) (x l : Half) (s : State),
    (i = .getDescriptorDevice 0 x l ∧ id = .dev) ∨ (i = .getDescriptorConfiguration 0 x l ∧ id = .cfg) ∨
      (i = .getDescriptorString 0 x l ∧ id = .str0) ∨ (i = .getDescriptorString 1 x l ∧ id = .str1) ∨
      (i = .getDescriptorString 2 x l ∧ id = .str2) ∨ (i = .getDescriptorReport 0 x l ∧ id = .rpt) →
    ∃ t, exec i s = .next t ∧ t.reply_src = some id ∧
      t.reply_len.toNat = min (descRom s.cfg id).length l.toNat ∧
      (t.reply_len.toNat = 0 → t.ctl_state = .status ∧
        t = { s with reply_src := t.reply_src, reply_len := t.reply_len, ctl_state := t.ctl_state }) ∧
      (t.reply_len.toNat ≠ 0 → t.ctl_state = .dataIn ∧ t.ctl_phase = .stage ∧ t.reply_off.toNat = 0 ∧
        (t.zlp_pending = true ↔
          s.cfg.ZLP_ENABLE = true ∧ t.reply_len.toNat % 64 = 0 ∧ t.reply_len.toNat < l.toNat) ∧
        t = { s with
          reply_src := t.reply_src, reply_len := t.reply_len, reply_off := t.reply_off
          zlp_pending := t.zlp_pending, ctl_state := t.ctl_state, ctl_phase := t.ctl_phase })

/-- R253: an index that names no entry stalls with STALL_BAD_DESC_INDEX, which logs the type and the index. -/
def Obligations.BadDescriptorIndexStalls : Prop :=
  ∀ (i : Instr) (ty n : Byte) (x l : Half) (s : State),
    (i = .getDescriptorDevice n x l ∧ ty = 0x01 ∧ n.toNat ≠ 0) ∨
      (i = .getDescriptorConfiguration n x l ∧ ty = 0x02 ∧ n.toNat ≠ 0) ∨
      (i = .getDescriptorString n x l ∧ ty = 0x03 ∧ 3 ≤ n.toNat) ∨
      (i = .getDescriptorReport n x l ∧ ty = 0x22 ∧ n.toNat ≠ 0) →
    exec i s = .next { s with
      emitted := s.emitted ++ [.ep0Stall], fault_led := true, ctl_state := .stalled
      fault_log := s.fault_log ++ [.stallBadDescIndex ty n] }

/-- R258, R259: DEVICE_QUALIFIER and every type no row serves stall with STALL_UNSUPPORTED_DESC, which logs the type and
the recipient. -/
def Obligations.UnsupportedDescriptorStalls : Prop :=
  ∀ (rc : BitVec 1) (ty n : Byte) (x l : Half) (s : State),
    exec (.getDescriptorDeviceQualifier n x l) s = .next { s with
      emitted := s.emitted ++ [.ep0Stall], fault_led := true, ctl_state := .stalled
      fault_log := s.fault_log ++ [.stallUnsupportedDesc 0x06 0] } ∧
    ∃ rcp : BitVec 5, rcp.toNat = rc.toNat ∧ exec (.getDescriptorOther rc ty n x l) s = .next { s with
      emitted := s.emitted ++ [.ep0Stall], fault_led := true, ctl_state := .stalled
      fault_log := s.fault_log ++ [.stallUnsupportedDesc ty rcp] }

/-! ### The descriptor table -/

/-- R61, R94, R260 to R267: the entries' lengths for every value of the parameters, and each record's first two bytes, its
length and its type. -/
def Obligations.DescriptorTableLengths : Prop :=
  ∀ c : Config,
    (descRom c .dev).length = 18 ∧ (descRom c .cfg).length = 41 ∧ (descRom c .str0).length = 4 ∧
    (descRom c .str1).length = 2 + 2 * c.MFR_STRING.length ∧
    (descRom c .str2).length = 2 + 2 * c.PRODUCT_STRING.length ∧
    (descRom c .rpt).length = c.REPORT_DESC.length ∧
    (descRom c .dev).take 2 = [18, 1] ∧ (descRom c .cfg).take 2 = [9, 2] ∧ (descRom c .str0).take 2 = [4, 3] ∧
    ((descRom c .cfg).drop 9).take 2 = [9, 4] ∧ ((descRom c .cfg).drop 18).take 2 = [9, 0x21] ∧
    ((descRom c .cfg).drop 27).take 2 = [7, 5] ∧ ((descRom c .cfg).drop 34).take 2 = [7, 5] ∧
    (c.MFR_STRING.length ≤ 126 → ∃ b, (descRom c .str1).take 2 = [b, 3] ∧ b.toNat = (descRom c .str1).length) ∧
    (c.PRODUCT_STRING.length ≤ 126 → ∃ b, (descRom c .str2).take 2 = [b, 3] ∧ b.toNat = (descRom c .str2).length)

/-- R260, R261, R266, R267, R272: with the defaults and the placeholders each of the six descriptors is the bytes the rules
list, and the default report descriptor declares what R270 asks. It rests on the placeholders (assumption 3), on the
constants D20 calls overridable (assumption 29) and on what counts as declared (assumptions 27 and 28). -/
def Obligations.DefaultDescriptorBytes : Prop :=
  descRom .defaults .dev =
    [0x12, 0x01, 0x00, 0x02, 0x00, 0x00, 0x00, 0x40, 0x34, 0x12, 0x78, 0x56, 0x01, 0x00, 0x01, 0x02, 0x00, 0x01] ∧
  descRom .defaults .cfg =
    [0x09, 0x02, 0x29, 0x00, 0x01, 0x01, 0x00, 0x80, 0x32, 0x09, 0x04, 0x00, 0x00, 0x02, 0x03, 0x00, 0x00, 0x00,
     0x09, 0x21, 0x11, 0x01, 0x00, 0x01, 0x22, 0x1B, 0x00, 0x07, 0x05, 0x01, 0x03, 0x40, 0x00, 0x01,
     0x07, 0x05, 0x81, 0x03, 0x40, 0x00, 0x01] ∧
  descRom .defaults .str0 = [0x04, 0x03, 0x09, 0x04] ∧
  descRom .defaults .str1 = [0x08, 0x03, 0x4D, 0x00, 0x46, 0x00, 0x52, 0x00] ∧
  descRom .defaults .str2 = [0x0C, 0x03, 0x50, 0x00, 0x41, 0x00, 0x4E, 0x00, 0x45, 0x00, 0x4C, 0x00] ∧
  descRom .defaults .rpt =
    [0x06, 0x00, 0xFF, 0x09, 0x01, 0xA1, 0x01, 0x15, 0x00, 0x27, 0x3F, 0x42, 0x0F, 0x00, 0x75, 0x14, 0x95, 0x02,
     0x09, 0x01, 0x81, 0x02, 0x09, 0x01, 0x91, 0x02, 0xC0] ∧
  reportDescOk Config.defaults.REPORT_DESC = true

/-- R62: no step changes the descriptor table. -/
def Obligations.DescriptorTableNeverChanges : Prop :=
  ∀ s t : State, step s = .next t → ∀ id, spaceBytes t (.descRom id) = spaceBytes s (.descRom id)

/-- R93: a report is the 40-bit little-endian number `v0 + 2^20 * v1`; any two 20-bit values are carried, and any five bytes
are the report of the values they carry. -/
def Obligations.ReportPacking : Prop :=
  (∀ v0 v1 : BitVec 20,
    let r := packReport v0 v1
    r[0].toNat + 2 ^ 8 * r[1].toNat + 2 ^ 16 * r[2].toNat + 2 ^ 24 * r[3].toNat + 2 ^ 32 * r[4].toNat =
        v0.toNat + 2 ^ 20 * v1.toNat ∧
      reportV0 r = v0 ∧ reportV1 r = v1) ∧
  (∀ r : Vector Byte 5, packReport (reportV0 r) (reportV1 r) = r)

/-! ### Decoding -/

/-- R80, R87, R88: words written out from the encodings decode to the operations they stand for. A sanity statement. -/
def Obligations.WrittenOutWordsDecode : Prop :=
  decode [0x1F, 0x05, 0x03, 0x00, 0x00, 0x00, 0x00, 0x00] = .instr (.setAddress 31 3 0 0) ∧
  decode [0x21, 0x0A, 0x34, 0x12, 0x01, 0x00, 0x00, 0x00] = .instr (.setIdle 1 0x1234 1 0) ∧
  decode [0x80, 0x06, 0x02, 0x03, 0x09, 0x04, 0xFF, 0x00] = .instr (.getDescriptorString 2 0x0409 0xFF) ∧
  decode [0x81, 0x06, 0x00, 0x22, 0x00, 0x00, 0x61, 0x00] = .instr (.getDescriptorReport 0 0 0x61) ∧
  decode [0x80, 0x06, 0x00, 0x22, 0x00, 0x00, 0x61, 0x00] = .instr (.getDescriptorOther 0 0x22 0 0 0x61) ∧
  decode [0xC0, 0x01, 0x00, 0x00, 0x00, 0x00, 0x08, 0x00] = .instr (.unmatched 0xC0 0x01 0 0 8) ∧
  decode [0x21, 0x05] = .instr (.busWrite 0x21 0x05) ∧ decode [0xA0, 0x00] = .instr (.busRead 0x20 0)

/-- R87, R208, R250, R251: the first matching row of the mask table is the row of the two-level dispatch, for every
request. -/
def Obligations.MaskTableIsTwoLevelDispatch : Prop :=
  ∀ r : Request, r.row = twoLevelDispatch r

/-- R80 to R89: decoding the bytes of a well-formed operation gives it back, with every operand at every value; and an
operation has bytes exactly when the opcode table gives it a binary encoding. -/
def Obligations.DecodeOfEncode : Prop :=
  (∀ (i : Instr) (b : List Byte), i.wf = true → encode i = some b → decode b = .instr i) ∧
  (∀ i : Instr, encode i = none ↔
    (∃ w, i = .xfer w) ∨ (∃ f, i = .flagSet f) ∨ (∃ f, i = .flagTac f) ∨ (∃ d, i = .rotPulse d) ∨ i = .rotSample ∨
      (∃ p, i = .rotAccumulate p) ∨ i = .rotHasReport ∨ (∃ ep bs, i = .epInSend ep bs) ∨ i = .armOut)

/-- R80, R88, R96, R97: decoding loses no bit: the bytes of a decoded operation are the bytes it was decoded from; bytes are
rejected exactly when their number is neither 8 nor 2. -/
def Obligations.EncodeOfDecode : Prop :=
  (∀ (b : List Byte) (i : Instr), decode b = .instr i → encode i = some b) ∧
  (∀ b : List Byte, (∃ e, decode b = .rejected e) ↔ b.length ≠ 8 ∧ b.length ≠ 2)

/-! ### A step performs the decoded operation -/

/-- R208: in service 2, with a decoded request, SQ's step is the operation the request decodes to, and service 2 returns in
that step when the transfer is over (R205), which is the model's reading (assumption 6). -/
def Obligations.DispatchPerformsTheDecodedRequest : Prop :=
  ∀ (s : State) (rest : List Turn) (i : Instr),
    s.sqMoves rest → s.seq_state = .run .setup → s.ctl_state = .setupDecoded →
    decode s.req.toBytes.toList = .instr i →
    step s = afterNext (exec i (s.sqTurn rest)) fun t =>
      if t.ctl_state = .idle ∨ t.ctl_state = .stalled then { t with seq_state := .poll .epOut } else t

/-- R50, R306: between two commands of a service's hook, SQ's step is the operation of the next command that R306 does not
forbid (for a bus message, the one its word decodes to), the oracle's list moves on, and the model's marks say that the hook
has sent or armed (assumption 16). Where the operation is refused, `settle` says whether a reset is still to come
(assumption 30). When the oracle has no further command, and the hook has issued what it must, the hook is over and the next
poll follows (R304). -/
def Obligations.HookPerformsTheDecodedMessage : Prop :=
  ∀ (s : State) (rest : List Turn) (h : Hook) (orest : List HookStep),
    s.sqMoves rest → s.atHook = some h → h ≠ .boot → s.cmd = .idle →
    (∀ (c : HookCmd) (i : Instr), s.oracle = .cmd c :: orest → ¬ forbiddenCommand h c s → commandPerforms c i →
      step s = (s.passed rest).settle (exec i { s.sqTurn rest with
        oracle := orest
        hook_sent := match c with | .sendIn _ => true | .xfer _ => s.hook_sent | .message _ => s.hook_sent
                                  | .armOut => s.hook_sent
        hook_armed := match c with | .armOut => true | .xfer _ => s.hook_armed | .message _ => s.hook_armed
                                   | .sendIn _ => s.hook_armed })) ∧
    (s.oracle = .done :: orest → (h = .epOut → s.hook_armed = true) → (h = .detent → s.hook_sent = true) →
      step s = .next { s.sqTurn rest with
        oracle := orest
        seq_state := match h with | .boot => .sleep | .epOut => .poll .key | .key => .poll .rotary | .detent => .sleep })

/-- R50, R342: in boot, SQ's step is the operation of the next command (XFER of a word, or a bus message, which is what its
word decodes to), and BOOT(i) moves on to BOOT(i+1) when the command has run to its end, which is when the step does not
leave SQ waiting. Where the operation is refused, `settle` says whether a reset is still to come (assumption 30). -/
def Obligations.BootPerformsTheDecodedMessage : Prop :=
  ∀ (s : State) (rest : List Turn) (n : Nat) (c : HookCmd) (orest : List HookStep) (i : Instr),
    s.sqMoves rest → s.seq_state = .boot n → s.cmd = .idle → s.oracle = .cmd c :: orest →
    ¬ forbiddenCommand .boot c s → commandPerforms c i →
    step s = (s.passed rest).settle (afterNext (exec i { s.sqTurn rest with oracle := orest }) fun t =>
      if t.seq_state = .boot n ∧ t.cmd.waiting = false then { t with seq_state := .boot (n + 1) } else t)

/-! ### The control transfer -/

/-- R206: the decode reads the eight latched bytes into the request, low bytes first, clears the reply registers, and leaves
IDLE or STALLED for SETUP_DECODED. -/
def Obligations.DecodeReadsTheLatch : Prop :=
  ∀ (s : State) (rest : List Turn),
    s.sqMoves rest → s.seq_state = .run .setup → s.ctl_state = .idle ∨ s.ctl_state = .stalled →
    ∃ t, step s = .next t ∧ t.req.bmRequestType = s.setup_latch[0] ∧ t.req.bRequest = s.setup_latch[1] ∧
      t.req.recipient.toNat = s.setup_latch[0].toNat % 32 ∧ t.req.type.toNat = s.setup_latch[0].toNat / 32 % 4 ∧
      (t.req.dir = true ↔ 128 ≤ s.setup_latch[0].toNat) ∧
      t.req.wValue.toNat = 256 * s.setup_latch[3].toNat + s.setup_latch[2].toNat ∧
      t.req.wIndex.toNat = 256 * s.setup_latch[5].toNat + s.setup_latch[4].toNat ∧
      t.req.wLength.toNat = 256 * s.setup_latch[7].toNat + s.setup_latch[6].toNat ∧
      t.reply_src = none ∧ t.reply_len.toNat = 0 ∧ t.reply_off.toNat = 0 ∧ t.zlp_pending = false ∧
      t.ctl_state = .setupDecoded ∧
      t = { s.sqTurn rest with
        req := t.req, reply_src := t.reply_src, reply_len := t.reply_len, reply_off := t.reply_off
        zlp_pending := t.zlp_pending, ctl_state := t.ctl_state }

/-- R213: the stage step hands the next packet of the entry to EP0: at most 64 bytes, from the offset on. That the read of no
byte at the end of an entry goes through, for a zero-length packet, is the model's choice (assumption 32). -/
def Obligations.StageSendsTheNextPacket : Prop :=
  ∀ (s : State) (rest : List Turn) (id : DescId),
    s.sqMoves rest → s.seq_state = .run .setup → s.ctl_state = .dataIn → s.ctl_phase = .stage →
    s.reply_src = some id → s.reply_off.toNat ≤ s.reply_len.toNat →
    s.reply_len.toNat ≤ (descRom s.cfg id).length →
    let n := min 64 (s.reply_len.toNat - s.reply_off.toNat)
    let bytes := ((descRom s.cfg id).drop s.reply_off.toNat).take n
    ∃ t, step s = .next t ∧ t.emitted = [.epInStart .ep0 bytes] ∧ t.ep0_len.toNat = n ∧
      t.ep0_buf.toList = bytes ++ s.ep0_buf.toList.drop n ∧ t.ctl_phase = .waitStarted ∧
      t.flag .ep0Started = false ∧ t.flag .ep0Ended = false ∧ t.flag .ep0DataDone = false ∧
      (∀ g, g ≠ .ep0Started → g ≠ .ep0Ended → g ≠ .ep0DataDone → t.flag g = s.flag g) ∧
      t.ep0_owed = s.ep0_owed ++ [.started] ∧
      t = { s.sqTurn rest with
        emitted := t.emitted, ep0_len := t.ep0_len, ep0_buf := t.ep0_buf, ctl_phase := t.ctl_phase, flags := t.flags
        ep0_owed := t.ep0_owed }

/-- R214 to R216: the three waits are passed in their order, each by consuming its own flag; after the last one the next
packet is staged while bytes or a zero-length packet remain, and the status stage follows otherwise. That the end of the
last wait and this choice are one step is the model's reading (assumption 5). -/
def Obligations.PacketWaitsInOrder : Prop :=
  ∀ (s : State) (rest : List Turn), s.sqMoves rest → s.seq_state = .run .setup → s.ctl_state = .dataIn →
    (s.ctl_phase = .waitStarted → s.flag .ep0Started = true →
      step s = .next { s.sqTurn rest with flags := s.flags.put .ep0Started false, ctl_phase := .waitEnded }) ∧
    (s.ctl_phase = .waitEnded → s.flag .ep0Ended = true →
      step s = .next { s.sqTurn rest with flags := s.flags.put .ep0Ended false, ctl_phase := .waitDataDone }) ∧
    (s.ctl_phase = .waitDataDone → s.flag .ep0DataDone = true → s.reply_off.toNat + s.ep0_len.toNat < 65536 →
      ∃ t, step s = .next t ∧ t.reply_off.toNat = s.reply_off.toNat + s.ep0_len.toNat ∧
        t.flags = s.flags.put .ep0DataDone false ∧
        (t.reply_off.toNat < s.reply_len.toNat →
          t.ctl_state = .dataIn ∧ t.ctl_phase = .stage ∧ t.zlp_pending = s.zlp_pending) ∧
        (s.reply_len.toNat ≤ t.reply_off.toNat → s.zlp_pending = true →
          t.ctl_state = .dataIn ∧ t.ctl_phase = .stage ∧ t.zlp_pending = false) ∧
        (s.reply_len.toNat ≤ t.reply_off.toNat → s.zlp_pending = false →
          t.ctl_state = .status ∧ t.ctl_phase = s.ctl_phase ∧ t.zlp_pending = false) ∧
        t = { s.sqTurn rest with
          flags := t.flags, reply_off := t.reply_off, zlp_pending := t.zlp_pending, ctl_state := t.ctl_state
          ctl_phase := t.ctl_phase })

/-- R212 to R216, R252: with an environment that completes each packet, the data stage hands the host exactly the first
`reply_len` bytes of the entry, in packets of at most 64 bytes, with a zero-length packet after them when one is
pending, and ends in the status stage. The count of the steps rests on the model's reading that each wait is one step with
what follows it (assumption 5). That the zero-length packet after a whole entry is no refused access is its choice
(assumption 32). -/
def Obligations.DataStageSendsThePrefix : Prop :=
  ∀ (s : State) (id : DescId) (k : Nat) (rest : List Turn),
    s.refused = none → s.seq_state = .run .setup → s.ctl_state = .dataIn → s.ctl_phase = .stage →
    s.link_started = true → s.reply_src = some id → s.reply_off.toNat = 0 → 0 < s.reply_len.toNat →
    s.reply_len.toNat ≤ (descRom s.cfg id).length → s.ep0_owed = [] →
    k = (s.reply_len.toNat + 63) / 64 + (if s.zlp_pending then 1 else 0) → s.schedule = packetsTurns k ++ rest →
    ∃ es t, runPorts (7 * k) s = some (es, t) ∧ ep0Bytes es = (descRom s.cfg id).take s.reply_len.toNat ∧
      es.length = k ∧ (∀ e ∈ es, ∃ b, e = .epInStart .ep0 b ∧ b.length ≤ 64) ∧ t.ctl_state = .status ∧
      t.seq_state = .run .setup ∧ t.schedule = rest ∧ t.ep0_owed = []

/-- R217, R205: the status stage is one emit and is not waited for; the transfer is over and service 2 returns. -/
def Obligations.StatusStageEndsTheTransfer : Prop :=
  ∀ (s : State) (rest : List Turn), s.sqMoves rest → s.seq_state = .run .setup → s.ctl_state = .status →
    step s = .next { s.sqTurn rest with emitted := [.ep0Status], ctl_state := .idle, seq_state := .poll .epOut }

/-- R200: a step that is not a reset moves `ctl_state` only along the rows of the table, on their conditions. -/
def Obligations.ControlStateMovesByTheTable : Prop :=
  ∀ s t : State, step s = .next t → (∀ u chip rest, s.schedule ≠ .reset u chip :: rest) →
    ctlTable s t

/-- R202, R205: once service 2 runs, no step but a reset leaves it, except into the poll of service 3 with the transfer
over. -/
def Obligations.TransferHoldsTheSequencer : Prop :=
  ∀ s t : State, step s = .next t → (∀ u chip rest, s.schedule ≠ .reset u chip :: rest) →
    s.seq_state = .run .setup →
    t.seq_state = .run .setup ∨ (t.seq_state = .poll .epOut ∧ (t.ctl_state = .idle ∨ t.ctl_state = .stalled))

/-- R207: with SETUP_ABORTS, at a wait of the data stage with a SETUP pending, SQ may end the transfer instead of
waiting: service 2 returns and `FL_SETUP` stays set. It does so at a turn that prefers it, and at any turn of SQ while the
wait holds it. Where one of these conditions fails there is no such step: a turn that prefers it is the ordinary one. The
preference, and that a held SQ takes its one step, is the model's way to say which step SQ takes (assumption 2). -/
def Obligations.AbortOnlyWhereAllowed : Prop :=
  (∀ (s : State) (rest : List Turn), s.refused = none → s.schedule = .sq true :: rest → s.cfg.SETUP_ABORTS = true →
    s.flag .setup = true → s.seq_state = .run .setup → s.ctl_state = .dataIn → s.ctl_phase ≠ .stage →
    step s = .next { s.sqTurn rest with ctl_state := .idle, ctl_phase := .stage, seq_state := .poll .epOut }) ∧
  (∀ (s : State) (rest : List Turn), s.sqMoves rest → s.cfg.SETUP_ABORTS = true →
    s.flag .setup = true → s.seq_state = .run .setup → s.ctl_state = .dataIn →
    (s.ctl_phase = .waitStarted ∧ s.flag .ep0Started = false) ∨ (s.ctl_phase = .waitEnded ∧ s.flag .ep0Ended = false) ∨
      (s.ctl_phase = .waitDataDone ∧ s.flag .ep0DataDone = false) →
    step s = .next { s.sqTurn rest with ctl_state := .idle, ctl_phase := .stage, seq_state := .poll .epOut }) ∧
  (∀ (s : State) (rest : List Turn), s.schedule = .sq true :: rest →
    s.cfg.SETUP_ABORTS = false ∨ s.flag .setup = false ∨ s.seq_state ≠ .run .setup ∨ s.ctl_state ≠ .dataIn ∨
      s.ctl_phase = .stage →
    step s = step { s with schedule := .sq false :: rest })

/-! ### Endpoints -/

/-- R230: EP_IN_SEND stages the bytes, clears the completion flags of its endpoint, triggers the transfer and stands at
the wait for "started"; more bytes than the staging buffer holds are OUT_OF_RANGE (R60). -/
def Obligations.EpInSendStartsTheTransfer : Prop :=
  ∀ (bytes : List Byte) (s : State), s.agent = .sq →
    (bytes.length ≤ 64 → ∃ t, exec (.epInSend .ep0 bytes) s = .next t ∧
      t.ep0_buf.toList = bytes ++ s.ep0_buf.toList.drop bytes.length ∧ t.ep0_len.toNat = bytes.length ∧
      t.flags = ((s.flags.put .ep0Started false).put .ep0Ended false).put .ep0DataDone false ∧
      t.emitted = s.emitted ++ [.epInStart .ep0 bytes] ∧ t.ctl_phase = .waitStarted ∧
      t.ep0_owed = s.ep0_owed ++ [.started] ∧
      t = { s with
        ep0_buf := t.ep0_buf, ep0_len := t.ep0_len, flags := t.flags, emitted := t.emitted, ctl_phase := t.ctl_phase
        ep0_owed := t.ep0_owed }) ∧
    (bytes.length ≤ 5 → ∃ t, exec (.epInSend .epIn bytes) s = .next t ∧
      t.epin_buf.toList = bytes ++ s.epin_buf.toList.drop bytes.length ∧
      t.flags = (s.flags.put .epInStarted false).put .epInEnded false ∧
      t.emitted = s.emitted ++ [.epInStart .epIn bytes] ∧ t.cmd = .inStarted ∧
      t.epin_owed = s.epin_owed ++ [.started] ∧
      t = { s with
        epin_buf := t.epin_buf, flags := t.flags, emitted := t.emitted, cmd := t.cmd, epin_owed := t.epin_owed }) ∧
    (64 < bytes.length → exec (.epInSend .ep0 bytes) s = .refused (.outOfRange .ep0Buf 0 bytes.length)) ∧
    (5 < bytes.length → exec (.epInSend .epIn bytes) s = .refused (.outOfRange .epInBuf 0 bytes.length))

/-- R230: a running `SEND_IN` passes its two waits in order, each by consuming its own flag, and is then over. -/
def Obligations.SendInWaitsInOrder : Prop :=
  ∀ (s : State) (rest : List Turn) (h : Hook), s.sqMoves rest → s.atHook = some h → h ≠ .boot →
    (s.cmd = .inStarted → s.flag .epInStarted = true →
      step s = .next { s.sqTurn rest with flags := s.flags.put .epInStarted false, cmd := .inEnded }) ∧
    (s.cmd = .inEnded → s.flag .epInEnded = true →
      step s = .next { s.sqTurn rest with flags := s.flags.put .epInEnded false, cmd := .idle })

/-- R231: ARM_OUT arms the OUT buffer and drives its port, and writes nothing else. -/
def Obligations.ArmOutArms : Prop :=
  ∀ s : State, exec .armOut s = .next { s with out_armed := true, emitted := s.emitted ++ [.epOutArm] }

/-! ### The sequencer -/

/-- R304, R307, R309: each poll does one TestAndClear of its service's flag; when it was 1 the service's handler runs, from
its beginning, and otherwise the next poll in the order 1 to 5 follows, SLEEP after the last. At service entry the model's
own fields stand at the handler's beginning: service 5 at its Sample, and no command issued (assumption 16). -/
def Obligations.PollsInFixedOrder : Prop :=
  ∀ (s : State) (rest : List Turn) (k : Service) (f : Flag) (after : SeqState),
    s.sqMoves rest → s.seq_state = .poll k →
    (k, f, after) ∈ [(Service.usbPower, Flag.usbPower, SeqState.poll .setup), (.setup, .setup, .poll .epOut),
      (.epOut, .epOut, .poll .key), (.key, .key, .poll .rotary), (.rotary, .rotReport, .sleep)] →
    ∃ t, step s = .next t ∧ t.ret_flag = s.flag f ∧ t.flag f = false ∧ (∀ g, g ≠ f → t.flag g = s.flag g) ∧
      (s.flag f = true →
        t.seq_state = .run k ∧ t.rot_step = .sample ∧ t.hook_sent = false ∧ t.hook_armed = false) ∧
      (s.flag f = false → t.seq_state = after ∧ t.rot_step = s.rot_step ∧ t.hook_sent = s.hook_sent ∧
        t.hook_armed = s.hook_armed) ∧
      t = { s.sqTurn rest with
        flags := t.flags, ret_flag := t.ret_flag, seq_state := t.seq_state, rot_step := t.rot_step
        hook_sent := t.hook_sent, hook_armed := t.hook_armed }

/-- R302, R304: in SLEEP a set service flag wakes SQ into the first poll; with none set SQ has no step, and the block goes
on sleeping with its state kept (R325). A completion flag wakes nothing. That the model answers a next state there, and no
fault, is its choice (assumption 19). -/
def Obligations.SleepWakesOnServiceFlags : Prop :=
  ∀ (s : State) (rest : List Turn), s.sqMoves rest → s.seq_state = .sleep →
    (s.flag .usbPower = true ∨ s.flag .setup = true ∨ s.flag .epOut = true ∨ s.flag .key = true ∨
      s.flag .rotReport = true → step s = .next { s.sqTurn rest with seq_state := .poll .usbPower }) ∧
    (s.flag .usbPower = false → s.flag .setup = false → s.flag .epOut = false → s.flag .key = false →
      s.flag .rotReport = false → step s = .next { s with emitted := [], wave := [], schedule := rest })

/-- R123, R302: with no further turn to come, SQ at a completion wait whose flag is 0 is stuck: a hang. That a hang is a
fault, and that it shows when the schedule is empty, is the model's choice (assumption 19). -/
def Obligations.WaitWithoutCompletionHangs : Prop :=
  ∀ (s : State) (f : Flag), s.refused = none → s.schedule = [] → s.cfg.SETUP_ABORTS = false → s.flag f = false →
    (s.seq_state = .run .setup ∧ s.ctl_state = .dataIn ∧
        ((s.ctl_phase = .waitStarted ∧ f = .ep0Started) ∨ (s.ctl_phase = .waitEnded ∧ f = .ep0Ended) ∨
          (s.ctl_phase = .waitDataDone ∧ f = .ep0DataDone))) ∨
      ((∃ h, s.atHook = some h) ∧
        ((∃ after, s.cmd = .busWait after ∧ f = .busDone) ∨ (s.cmd = .inStarted ∧ f = .epInStarted) ∨
          (s.cmd = .inEnded ∧ f = .epInEnded))) →
    step s = .fault (.hang f)

/-- R305: service 1 starts the link, again on every event, and goes to the next poll (R304). That it does so in the same
step is the model's reading (assumption 6). -/
def Obligations.PowerServiceStartsTheLink : Prop :=
  ∀ (s : State) (rest : List Turn), s.sqMoves rest → s.seq_state = .run .usbPower →
    step s = .next { s.sqTurn rest with
      emitted := [.usbLinkStart], link_started := true, seq_state := .poll .setup }

/-- R306: no step of SQ in a hook changes the control transfer, the descriptor reply, the rotary registers, the
configuration or the indicator, and of the flags only the completion flags of the bus and of the interrupt-IN endpoint;
only HOOK_EPOUT arms the OUT buffer. -/
def Obligations.HooksLeaveTheRestAlone : Prop :=
  ∀ (s t : State) (rest : List Turn) (h : Hook), s.sqMoves rest → s.atHook = some h → step s = .next t →
    t.ctl_state = s.ctl_state ∧ t.ctl_phase = s.ctl_phase ∧ t.setup_latch = s.setup_latch ∧ t.req = s.req ∧
    t.reply_src = s.reply_src ∧ t.reply_len = s.reply_len ∧ t.reply_off = s.reply_off ∧
    t.zlp_pending = s.zlp_pending ∧ t.ep0_buf = s.ep0_buf ∧ t.ep0_len = s.ep0_len ∧ t.configured = s.configured ∧
    t.link_started = s.link_started ∧ t.rot_cnt = s.rot_cnt ∧ t.rot_acc = s.rot_acc ∧ t.fault_led = s.fault_led ∧
    (∀ g, g ≠ .busDone → g ≠ .epInStarted → g ≠ .epInEnded → t.flag g = s.flag g) ∧
    (t.out_armed = s.out_armed ∨ (h = .epOut ∧ t.out_armed = true))

/-- R306, the columns "may issue" and "must issue": HOOK_EPOUT is over only after its ARM_OUT, and HOOK_DETENT only after its
SEND_IN. The fields `hook_armed` and `hook_sent` are the model's marks of these commands (assumption 16): each becomes true
only in the step that drives the command's port, that step finds it false, and in the hook it then stays. So a hook issues at
most one of each. A command that R306 forbids, and an end before the command that R306 demands, has no step; that it is
refused is the model's choice (assumption 10). -/
def Obligations.HooksEndOnlyWhenDone : Prop :=
  (∀ (s t : State) (rest : List Turn), s.sqMoves rest → step s = .next t →
    (s.seq_state = .run .epOut → t.seq_state ≠ .run .epOut → s.hook_armed = true ∧ t.seq_state = .poll .key) ∧
    (s.seq_state = .run .rotary → s.rot_step = .detent → t.seq_state ≠ .run .rotary →
      s.hook_sent = true ∧ t.seq_state = .sleep)) ∧
  (∀ s t : State, step s = .next t →
    (t.hook_armed = true → s.hook_armed = true ∨ (s.atHook = some .epOut ∧ t.emitted = [.epOutArm])) ∧
    (t.hook_sent = true → s.hook_sent = true ∨
      ((s.atHook = some .key ∨ s.atHook = some .detent) ∧ ∃ b, t.emitted = [.epInStart .epIn b])) ∧
    (∀ h, s.atHook = some h → .epOutArm ∈ t.emitted → s.hook_armed = false ∧ t.hook_armed = true) ∧
    (∀ b, .epInStart .epIn b ∈ t.emitted → s.hook_sent = false ∧ t.hook_sent = true) ∧
    (∀ h, s.atHook = some h → (∀ u chip rest, s.schedule ≠ .reset u chip :: rest) →
      (s.hook_armed = true → t.hook_armed = true) ∧ (s.hook_sent = true → t.hook_sent = true))) ∧
  (∀ (s : State) (rest : List Turn) (h : Hook) (orest : List HookStep),
    s.sqMoves rest → s.atHook = some h → s.cmd = .idle →
    (∀ c, s.oracle = .cmd c :: orest → forbiddenCommand h c s → step s = .refused (.hookContract h)) ∧
    (s.oracle = .done :: orest → (h = .epOut ∧ s.hook_armed = false) ∨ (h = .detent ∧ s.hook_sent = false) →
      step s = .refused (.hookContract h)))

/-- R342: boot ends in SLEEP when its hook has no further command. -/
def Obligations.BootEndsInSleep : Prop :=
  ∀ (s : State) (rest : List Turn) (orest : List HookStep) (n : Nat), s.sqMoves rest → s.seq_state = .boot n →
    s.cmd = .idle → s.oracle = .done :: orest →
    step s = .next { s.sqTurn rest with oracle := orest, seq_state := .sleep }

/-! ### The environment and reset -/

/-- R49, R31: what each event of the environment does in its one step, when its duty lets it come. The completion events
also move the environment's own account of what it owes: the first transfer that owes the event owes its next one, or none
after the last (assumption 9). A bus frame given by its MISO bits ends the transaction with the bytes received and puts the
frame's levels on the pins (R148, assumption 15); a knob movement given by its phases is a pulse where the table of R171 has
one (assumption 14, PRESUMED). -/
def Obligations.EventsDoWhatTheTableSays : Prop :=
  ∀ (s : State) (e : EnvEvent) (rest : List Turn), s.envMoves e rest →
    let s0 := s.envTurn rest
    let word := s.bus_txbuf[0] ++ s.bus_txbuf[1]
    (e = .usbPower → step s = .next { s0 with flags := s.flags.put .usbPower true }) ∧
    (∀ p, e = .setup p → s.link_started = true →
      step s = .next { s0 with setup_latch := p, flags := s.flags.put .setup true }) ∧
    (e = .epStarted .ep0 → s.link_started = true → EpStage.started ∈ s.ep0_owed →
      step s = .next { s0 with
        flags := s.flags.put .ep0Started true, ep0_owed := payOwed .started (some .ended) s.ep0_owed }) ∧
    (e = .epStarted .epIn → s.link_started = true → EpStage.started ∈ s.epin_owed →
      step s = .next { s0 with
        flags := s.flags.put .epInStarted true, epin_owed := payOwed .started (some .ended) s.epin_owed }) ∧
    (e = .epEnded .ep0 → s.link_started = true → EpStage.ended ∈ s.ep0_owed →
      step s = .next { s0 with
        flags := s.flags.put .ep0Ended true, ep0_owed := payOwed .ended (some .dataDone) s.ep0_owed }) ∧
    (e = .epEnded .epIn → s.link_started = true → EpStage.ended ∈ s.epin_owed →
      step s = .next { s0 with
        flags := s.flags.put .epInEnded true, epin_owed := payOwed .ended none s.epin_owed }) ∧
    (e = .ep0DataDone → s.link_started = true → EpStage.dataDone ∈ s.ep0_owed →
      step s = .next { s0 with
        flags := s.flags.put .ep0DataDone true, ep0_owed := payOwed .dataDone none s.ep0_owed }) ∧
    (∀ r, e = .epOut r → s.link_started = true → s.configured = true → s.out_armed = true →
      step s = .next { s0 with epout_buf := r, out_armed := false, flags := s.flags.put .epOut true }) ∧
    (e = .key → step s = .next { s0 with flags := s.flags.put .key true }) ∧
    (e = .report → step s = .next { s0 with flags := s.flags.put .rotReport true }) ∧
    (∀ d, e = .pulse d → step s = exec (.rotPulse d) s0) ∧
    (∀ rx, e = .busEnd rx → s.bus_busy = true →
      step s = .next { s0 with
        bus_rxbuf := rx, bus_busy := false, flags := s.flags.put .busDone true, periph_prev := some word }) ∧
    (∀ miso, e = .busFrame miso → s.bus_busy = true →
      step s = .next { s0 with
        bus_rxbuf := busBytes miso, bus_busy := false, flags := s.flags.put .busDone true
        periph_prev := some word, wave := busFrame word miso }) ∧
    (∀ p, e = .phase p →
      (phasePulse s.cfg.ROT_DIR s.rot_phase p = none → step s = .next { s0 with rot_phase := p }) ∧
      (∀ d, phasePulse s.cfg.ROT_DIR s.rot_phase p = some d →
        step s = exec (.rotPulse d) { s0 with rot_phase := p }))

/-- R49, R31, U21: an event outside the environment's duty is not enabled. That such a turn is refused is the model's choice
(assumption 9). -/
def Obligations.EventsOutsideTheirDutyAreRefused : Prop :=
  ∀ (s : State) (e : EnvEvent) (rest : List Turn), s.envMoves e rest →
    (s.link_started = false ∧
        ((∃ p, e = .setup p) ∨ (∃ ep, e = .epStarted ep) ∨ (∃ ep, e = .epEnded ep) ∨ e = .ep0DataDone ∨
          ∃ r, e = .epOut r)) ∨
      ((∃ r, e = .epOut r) ∧ (s.configured = false ∨ s.out_armed = false)) ∨
      (((∃ rx, e = .busEnd rx) ∨ ∃ miso, e = .busFrame miso) ∧ s.bus_busy = false) ∨
      (e = .epStarted .ep0 ∧ EpStage.started ∉ s.ep0_owed) ∨
      (e = .epEnded .ep0 ∧ EpStage.ended ∉ s.ep0_owed) ∨ (e = .ep0DataDone ∧ EpStage.dataDone ∉ s.ep0_owed) ∨
      (e = .epStarted .epIn ∧ EpStage.started ∉ s.epin_owed) ∨ (e = .epEnded .epIn ∧ EpStage.ended ∉ s.epin_owed) →
    step s = .refused (.envDuty e)

/-- R340, R42, R43: a reset, in any state, a refused one among them, sets every register to its reset value in one step, and
abandons the transfer, transaction, wait or hook in progress. The values R43 leaves unspecified are whatever the turn says;
that `State.reset` has zeros there is the model's choice (assumption 1). That the environment then owes no completion of an
abandoned transfer is the model's choice too, and so is that the rest of an abandoned hook's sequence is dropped from the
oracle's list (assumption 13). -/
def Obligations.ResetSetsEveryRegister : Prop :=
  ∀ (s : State) (u : Unspecified) (chip : Bool) (rest : List Turn), s.schedule = .reset u chip :: rest →
    ∃ t, step s = .next t ∧ (∀ f, t.flag f = false) ∧ t.ctl_state = .idle ∧ t.ctl_phase = .stage ∧
      t.reply_src = none ∧ t.reply_len = 0 ∧ t.reply_off = 0 ∧ t.zlp_pending = false ∧ t.ep0_len = 0 ∧
      t.configured = false ∧ t.out_armed = false ∧ t.link_started = false ∧ t.bus_busy = false ∧ t.rot_cnt = 0 ∧
      t.rot_acc = 0 ∧ t.fault_led = false ∧ t.fault_log = [] ∧ t.seq_state = .boot 0 ∧
      t.setup_latch = u.setup_latch ∧ t.req = u.req ∧ t.ep0_buf = u.ep0_buf ∧ t.bus_txbuf = u.bus_txbuf ∧
      t.bus_rxbuf = u.bus_rxbuf ∧ t.bus_result = u.bus_result ∧ t.refused = none ∧ t.cmd = .idle ∧
      (s.atHook = none → t.oracle = s.oracle) ∧
      (∀ (h : Hook) (cs : List HookCmd) (later : List HookStep), s.atHook = some h →
        (s.oracle = cs.map .cmd ++ .done :: later → t.oracle = later) ∧ (s.oracle = cs.map .cmd → t.oracle = [])) ∧
      t.hook_sent = false ∧ t.hook_armed = false ∧ t.ep0_owed = [] ∧ t.epin_owed = [] ∧ t.emitted = [] ∧
      t.schedule = rest ∧ t.cfg = s.cfg ∧ t.periph_prev = (if chip then none else s.periph_prev)

/-! ### Invariants -/

/-- The invariant of the block, and its account of EP0, hold right after reset. -/
def Obligations.ResetMeetsTheInvariant : Prop :=
  State.reset.Inv ∧ State.reset.ep0Owned ∧ ∀ (c : Config) (u : Unspecified), (State.atReset c u).Inv

/-- Every step keeps the invariant of the block: the legal values of R42, the bound on the accumulator (R174), the
indicator lit exactly when a stall is logged (R36, R240), a transaction in flight only while SQ waits for it (R140), a
transfer only in service 2 (R202), a reply no longer than its entry (R252), nothing armed before the device is
configured (R29, R30), no request before the link is started (R31), and no state refused but for an unknown bus address
(R60, R125, R143). -/
def Obligations.StepKeepsTheInvariant : Prop :=
  ∀ s t : State, s.Inv → step s = .next t → t.Inv

/-- R77, R213 to R216: without the abort step, EP0's completion flags and the completions the environment owes stay in
agreement, so SQ never stages a packet while one is in flight. The list of owed completions is the model's own record of
the last column of R49 (assumption 9). -/
def Obligations.StepKeepsEp0Ownership : Prop :=
  ∀ s t : State, s.cfg.SETUP_ABORTS = false → s.ep0Owned → step s = .next t → t.ep0Owned

/-- R60, R125: from a state that meets the invariant no step is refused for an access outside an address space or for a
flag written by the wrong agent: neither does the run end so, nor is the state marked so for a reset to come
(assumption 30). That a read of no byte at the end of an entry is no access outside it is the model's choice
(assumption 32). -/
def Obligations.NoStepLeavesItsBuffers : Prop :=
  ∀ s : State, s.Inv →
    (∀ sp addr n, step s ≠ .refused (.outOfRange sp addr n)) ∧ (∀ f, step s ≠ .refused (.flagWriter f)) ∧
    ∀ t, step s = .next t →
      (∀ sp addr n, t.refused ≠ some (.outOfRange sp addr n)) ∧ (∀ f, t.refused ≠ some (.flagWriter f))

/-- R29, R31, R36, R37: only a reset clears `configured`, `link_started` or the indicator, and only a reset removes an
entry of the log. -/
def Obligations.StickyBitsStaySet : Prop :=
  ∀ s t : State, step s = .next t → (∀ u chip rest, s.schedule ≠ .reset u chip :: rest) →
    (s.configured = true → t.configured = true) ∧ (s.link_started = true → t.link_started = true) ∧
    (s.fault_led = true → t.fault_led = true) ∧ ∃ more, t.fault_log = s.fault_log ++ more

/-! ### The refused state -/

/-- R11, R301, R340: a refused step marks the whole state refused and does nothing else; a refused state has no step but a
reset. Here the refusal is that of a hook's XFER to an unknown address (R143). That the run is over at once where no reset is
to come, and that the turns before the reset pass, is the model's way to say it (assumption 30); that the bus is not looked at
before the address is the model's choice (assumption 17). -/
def Obligations.RefusedStateIsLeftOnlyByReset : Prop :=
  (∀ (s : State) (rest : List Turn) (h : Hook) (w : Half) (orest : List HookStep),
    s.sqMoves rest → s.atHook = some h → s.cmd = .idle → s.oracle = .cmd (.xfer w) :: orest →
    ¬ forbiddenCommand h (.xfer w) s → s.cfg.BUS_ADDR_SET[(w.extractLsb' 8 7).toNat]'(BitVec.isLt _) = false →
    ((∃ u chip, .reset u chip ∈ rest) → step s = .next { s with
      emitted := [], wave := [], schedule := rest, refused := some (.busUnknownAddr w) }) ∧
    ((∀ u chip, .reset u chip ∉ rest) → step s = .refused (.busUnknownAddr w))) ∧
  (∀ (s : State) (r : Refusal), s.refused = some r →
    (s.schedule = [] → step s = .refused r) ∧
    (∀ (tn : Turn) (rest : List Turn), s.schedule = tn :: rest → (∀ u chip, tn ≠ .reset u chip) →
      ((∃ u chip, .reset u chip ∈ rest) → step s = .next { s with emitted := [], wave := [], schedule := rest }) ∧
      ((∀ u chip, .reset u chip ∉ rest) → step s = .refused r)) ∧
    (∀ (u : Unspecified) (chip : Bool) (rest : List Turn), s.schedule = .reset u chip :: rest →
      ∃ t, step s = .next t ∧ t.refused = none ∧ t.seq_state = .boot 0 ∧ t.schedule = rest))
end

