-- ==== Sys2Proof/Laws/Decode.lean ====
section
/-! SUPPORT. Byte order, and what it means for a setup key to match a row of the request map, field by field. -/

namespace Sys2Proof

/-! ### Values put together from two parts -/

theorem extract_low {m n : Nat} (a : BitVec m) (b : BitVec n) : (a ++ b).extractLsb' 0 n = b := by
  ext i hi
  simp [BitVec.getElem_extractLsb', BitVec.getLsbD_append, hi]

theorem extract_high {m n : Nat} (a : BitVec m) (b : BitVec n) : (a ++ b).extractLsb' n m = a := by
  ext i hi
  simp [BitVec.getElem_extractLsb', BitVec.getLsbD_append, BitVec.getLsbD_eq_getElem hi]

theorem extract_append {m n : Nat} (v : BitVec (m + n)) : v.extractLsb' n m ++ v.extractLsb' 0 n = v := by
  simp

/-! ### Byte order -/

@[simp] theorem lowByte_le16 (b0 b1 : Byte) : lowByte (le16 b0 b1) = b0 := extract_low b1 b0

@[simp] theorem highByte_le16 (b0 b1 : Byte) : highByte (le16 b0 b1) = b1 := extract_high b1 b0

@[simp] theorem le16_bytes (v : Half) : le16 (lowByte v) (highByte v) = v := extract_append (m := 8) (n := 8) v

@[simp] theorem highByte_append_lowByte (v : Half) : highByte v ++ lowByte v = v := le16_bytes v

@[simp] theorem lowByte_append (b1 b0 : Byte) : lowByte (b1 ++ b0) = b0 := lowByte_le16 b0 b1

@[simp] theorem highByte_append (b1 b0 : Byte) : highByte (b1 ++ b0) = b1 := highByte_le16 b0 b1

@[simp] theorem Request.ofBytes_toBytes (r : Request) : Request.ofBytes r.toBytes = r := by
  simp [Request.ofBytes, Request.toBytes]

@[simp] theorem Request.toBytes_ofBytes (b0 b1 b2 b3 b4 b5 b6 b7 : Byte) :
    (Request.ofBytes #v[b0, b1, b2, b3, b4, b5, b6, b7]).toBytes = #v[b0, b1, b2, b3, b4, b5, b6, b7] := by
  simp [Request.ofBytes, Request.toBytes]

/-! ### Keys and masks -/

/-- Masking a value put together from two parts masks each part. -/
theorem append_and_append {m n : Nat} (a c : BitVec m) (b d : BitVec n) :
    (a ++ b) &&& (c ++ d) = (a &&& c) ++ (b &&& d) := by
  ext i hi
  by_cases h : i < n <;> simp [BitVec.getElem_append, h]

/-- Two values put together from parts are equal when their parts are. -/
theorem append_eq_append {m n : Nat} {a c : BitVec m} {b d : BitVec n} : a ++ b = c ++ d ↔ a = c ∧ b = d := by
  constructor
  · intro h
    have h1 := congrArg (BitVec.extractLsb' n m) h
    have h2 := congrArg (BitVec.extractLsb' 0 n) h
    rw [extract_high, extract_high] at h1
    rw [extract_low, extract_low] at h2
    exact ⟨h1, h2⟩
  · rintro ⟨rfl, rfl⟩; rfl

/-- A key matches a mask when its three parts do. -/
theorem Request.key_match (r : Request) (v v' : Half) (b b' t t' : Byte) :
    r.key &&& (v ++ b ++ t) = v' ++ b' ++ t' ↔
      r.wValue &&& v = v' ∧ r.bRequest &&& b = b' ∧ r.bmRequestType &&& t = t' := by
  have h1 : r.key &&& (v ++ b ++ t) =
      (((r.wValue &&& v) ++ (r.bRequest &&& b)) ++ (r.bmRequestType &&& t) : BitVec 32) := by
    have e := append_and_append (r.wValue ++ r.bRequest) (v ++ b) r.bmRequestType t
    rw [append_and_append r.wValue v] at e
    exact e
  rw [h1]
  constructor
  · intro h
    have h2 := append_eq_append.1 h
    have h3 := append_eq_append.1 h2.1
    exact ⟨h3.1, h3.2, h2.2⟩
  · rintro ⟨rfl, rfl, rfl⟩; rfl

/-- The high byte of a half word, as a mask sees it. -/
theorem and_highMask (v : Half) (t : Byte) : v &&& 0xFF00 = t ++ (0 : Byte) ↔ highByte v = t := by
  have h1 : v &&& 0xFF00 = highByte v ++ (0 : Byte) := by
    have e := append_and_append (highByte v) 0xFF (lowByte v) 0
    have e1 : highByte v &&& 0xFF = highByte v := BitVec.and_allOnes
    have e0 : lowByte v &&& 0 = 0 := BitVec.and_zero
    rw [e1, e0] at e
    have ev : highByte v ++ lowByte v = v := highByte_append_lowByte v
    exact (congrArg (· &&& (0xFF00 : Half)) ev).symm.trans e
  rw [h1]
  exact ⟨fun h => (append_eq_append.1 h).1, fun h => by rw [h]⟩

/-- Rows 1 to 4 (R87): the direction and type bits and the request code, whatever the recipient and wValue. -/
theorem Request.key_out (r : Request) (kind : BitVec 3) (code : Byte) :
    r.key &&& 0x0000FFE0 = (0 : Half) ++ code ++ (kind ++ (0 : BitVec 5)) ↔
      r.bmRequestType.extractLsb' 5 3 = kind ∧ r.bRequest = code := by
  have h := r.key_match 0x0000 0 0xFF code 0xE0 (kind ++ (0 : BitVec 5))
  have e : (0x0000FFE0 : BitVec 32) = (0x0000 : Half) ++ (0xFF : Byte) ++ (0xE0 : Byte) := by decide
  rw [e, h]
  have hb : r.bRequest &&& 0xFF = r.bRequest := BitVec.and_allOnes
  have ht : ∀ (x : Byte) (k : BitVec 3), x &&& 0xE0 = k ++ (0 : BitVec 5) ↔ x.extractLsb' 5 3 = k := by decide
  rw [hb, ht]
  exact ⟨fun h => ⟨h.2.2, h.2.1⟩, fun h => ⟨BitVec.and_zero, h.2, h.1⟩⟩

/-- Rows 5 to 9 (R87): bmRequestType, the request code and the descriptor type, whatever the index. -/
theorem Request.key_in (r : Request) (t code bm : Byte) :
    r.key &&& 0xFF00FFFF = (t ++ (0 : Byte)) ++ code ++ bm ↔
      r.descType = t ∧ r.bRequest = code ∧ r.bmRequestType = bm := by
  have h := r.key_match 0xFF00 (t ++ (0 : Byte)) 0xFF code 0xFF bm
  have e : (0xFF00FFFF : BitVec 32) = (0xFF00 : Half) ++ (0xFF : Byte) ++ (0xFF : Byte) := by decide
  rw [e, h, and_highMask]
  have hb : r.bRequest &&& 0xFF = r.bRequest := BitVec.and_allOnes
  have hm : r.bmRequestType &&& 0xFF = r.bmRequestType := BitVec.and_allOnes
  rw [hb, hm]
  rfl

/-- Row 10 (R87): a GET_DESCRIPTOR to the device or to an interface. -/
theorem Request.key_other (r : Request) (code : Byte) :
    r.key &&& 0x0000FFFE = (0 : Half) ++ code ++ (0x80 : Byte) ↔
      r.bRequest = code ∧ (r.bmRequestType = 0x80 ∨ r.bmRequestType = 0x81) := by
  have h := r.key_match 0x0000 0 0xFF code 0xFE 0x80
  have e : (0x0000FFFE : BitVec 32) = (0x0000 : Half) ++ (0xFF : Byte) ++ (0xFE : Byte) := by decide
  rw [e, h]
  have hb : r.bRequest &&& 0xFF = r.bRequest := BitVec.and_allOnes
  have ht : ∀ x : Byte, x &&& 0xFE = 0x80 ↔ x = 0x80 ∨ x = 0x81 := by decide
  rw [hb, ht]
  exact ⟨fun h => h.2, fun h => ⟨BitVec.and_zero, h⟩⟩

end Sys2Proof
end

