-- ==== Sys2Proof/Laws/State.lean ====
section
/-! SUPPORT. What each shared update of the state does to each field, one lemma a field, true by unfolding. -/

namespace Sys2Proof.Machine

variable (s : State)

/-! ### `emit` -/

@[simp] theorem State.emit_cfg (e : Emit) : (s.emit e).cfg = s.cfg := rfl
@[simp] theorem State.emit_flags (e : Emit) : (s.emit e).flags = s.flags := rfl
@[simp] theorem State.emit_ctl_state (e : Emit) : (s.emit e).ctl_state = s.ctl_state := rfl
@[simp] theorem State.emit_ctl_phase (e : Emit) : (s.emit e).ctl_phase = s.ctl_phase := rfl
@[simp] theorem State.emit_setup_latch (e : Emit) : (s.emit e).setup_latch = s.setup_latch := rfl
@[simp] theorem State.emit_req (e : Emit) : (s.emit e).req = s.req := rfl
@[simp] theorem State.emit_reply_src (e : Emit) : (s.emit e).reply_src = s.reply_src := rfl
@[simp] theorem State.emit_reply_len (e : Emit) : (s.emit e).reply_len = s.reply_len := rfl
@[simp] theorem State.emit_reply_off (e : Emit) : (s.emit e).reply_off = s.reply_off := rfl
@[simp] theorem State.emit_zlp_pending (e : Emit) : (s.emit e).zlp_pending = s.zlp_pending := rfl
@[simp] theorem State.emit_ep0_buf (e : Emit) : (s.emit e).ep0_buf = s.ep0_buf := rfl
@[simp] theorem State.emit_ep0_len (e : Emit) : (s.emit e).ep0_len = s.ep0_len := rfl
@[simp] theorem State.emit_configured (e : Emit) : (s.emit e).configured = s.configured := rfl
@[simp] theorem State.emit_out_armed (e : Emit) : (s.emit e).out_armed = s.out_armed := rfl
@[simp] theorem State.emit_link_started (e : Emit) : (s.emit e).link_started = s.link_started := rfl
@[simp] theorem State.emit_bus_busy (e : Emit) : (s.emit e).bus_busy = s.bus_busy := rfl
@[simp] theorem State.emit_bus_txbuf (e : Emit) : (s.emit e).bus_txbuf = s.bus_txbuf := rfl
@[simp] theorem State.emit_bus_rxbuf (e : Emit) : (s.emit e).bus_rxbuf = s.bus_rxbuf := rfl
@[simp] theorem State.emit_bus_result (e : Emit) : (s.emit e).bus_result = s.bus_result := rfl
@[simp] theorem State.emit_rot_cnt (e : Emit) : (s.emit e).rot_cnt = s.rot_cnt := rfl
@[simp] theorem State.emit_rot_acc (e : Emit) : (s.emit e).rot_acc = s.rot_acc := rfl
@[simp] theorem State.emit_epin_buf (e : Emit) : (s.emit e).epin_buf = s.epin_buf := rfl
@[simp] theorem State.emit_epout_buf (e : Emit) : (s.emit e).epout_buf = s.epout_buf := rfl
@[simp] theorem State.emit_fault_led (e : Emit) : (s.emit e).fault_led = s.fault_led := rfl
@[simp] theorem State.emit_fault_log (e : Emit) : (s.emit e).fault_log = s.fault_log := rfl
@[simp] theorem State.emit_seq_state (e : Emit) : (s.emit e).seq_state = s.seq_state := rfl
@[simp] theorem State.emit_refused (e : Emit) : (s.emit e).refused = s.refused := rfl
@[simp] theorem State.emit_periph_prev (e : Emit) : (s.emit e).periph_prev = s.periph_prev := rfl
@[simp] theorem State.emit_agent (e : Emit) : (s.emit e).agent = s.agent := rfl
@[simp] theorem State.emit_cmd (e : Emit) : (s.emit e).cmd = s.cmd := rfl
@[simp] theorem State.emit_rot_step (e : Emit) : (s.emit e).rot_step = s.rot_step := rfl
@[simp] theorem State.emit_ret_flag (e : Emit) : (s.emit e).ret_flag = s.ret_flag := rfl
@[simp] theorem State.emit_ret_sample (e : Emit) : (s.emit e).ret_sample = s.ret_sample := rfl
@[simp] theorem State.emit_ret_indents (e : Emit) : (s.emit e).ret_indents = s.ret_indents := rfl
@[simp] theorem State.emit_ret_word (e : Emit) : (s.emit e).ret_word = s.ret_word := rfl
@[simp] theorem State.emit_hook_sent (e : Emit) : (s.emit e).hook_sent = s.hook_sent := rfl
@[simp] theorem State.emit_hook_armed (e : Emit) : (s.emit e).hook_armed = s.hook_armed := rfl
@[simp] theorem State.emit_draws (e : Emit) : (s.emit e).draws = s.draws := rfl
@[simp] theorem State.emit_ep0_owed (e : Emit) : (s.emit e).ep0_owed = s.ep0_owed := rfl
@[simp] theorem State.emit_epin_owed (e : Emit) : (s.emit e).epin_owed = s.epin_owed := rfl
@[simp] theorem State.emit_rot_phase (e : Emit) : (s.emit e).rot_phase = s.rot_phase := rfl
@[simp] theorem State.emit_schedule (e : Emit) : (s.emit e).schedule = s.schedule := rfl
@[simp] theorem State.emit_oracle (e : Emit) : (s.emit e).oracle = s.oracle := rfl
@[simp] theorem State.emit_emitted (e : Emit) : (s.emit e).emitted = s.emitted ++ [e] := rfl
@[simp] theorem State.emit_wave (e : Emit) : (s.emit e).wave = s.wave := rfl

/-! ### `raise` -/

@[simp] theorem State.raise_cfg (e : LogEntry) : (s.raise e).cfg = s.cfg := rfl
@[simp] theorem State.raise_flags (e : LogEntry) : (s.raise e).flags = s.flags := rfl
@[simp] theorem State.raise_ctl_state (e : LogEntry) : (s.raise e).ctl_state = s.ctl_state := rfl
@[simp] theorem State.raise_ctl_phase (e : LogEntry) : (s.raise e).ctl_phase = s.ctl_phase := rfl
@[simp] theorem State.raise_setup_latch (e : LogEntry) : (s.raise e).setup_latch = s.setup_latch := rfl
@[simp] theorem State.raise_req (e : LogEntry) : (s.raise e).req = s.req := rfl
@[simp] theorem State.raise_reply_src (e : LogEntry) : (s.raise e).reply_src = s.reply_src := rfl
@[simp] theorem State.raise_reply_len (e : LogEntry) : (s.raise e).reply_len = s.reply_len := rfl
@[simp] theorem State.raise_reply_off (e : LogEntry) : (s.raise e).reply_off = s.reply_off := rfl
@[simp] theorem State.raise_zlp_pending (e : LogEntry) : (s.raise e).zlp_pending = s.zlp_pending := rfl
@[simp] theorem State.raise_ep0_buf (e : LogEntry) : (s.raise e).ep0_buf = s.ep0_buf := rfl
@[simp] theorem State.raise_ep0_len (e : LogEntry) : (s.raise e).ep0_len = s.ep0_len := rfl
@[simp] theorem State.raise_configured (e : LogEntry) : (s.raise e).configured = s.configured := rfl
@[simp] theorem State.raise_out_armed (e : LogEntry) : (s.raise e).out_armed = s.out_armed := rfl
@[simp] theorem State.raise_link_started (e : LogEntry) : (s.raise e).link_started = s.link_started := rfl
@[simp] theorem State.raise_bus_busy (e : LogEntry) : (s.raise e).bus_busy = s.bus_busy := rfl
@[simp] theorem State.raise_bus_txbuf (e : LogEntry) : (s.raise e).bus_txbuf = s.bus_txbuf := rfl
@[simp] theorem State.raise_bus_rxbuf (e : LogEntry) : (s.raise e).bus_rxbuf = s.bus_rxbuf := rfl
@[simp] theorem State.raise_bus_result (e : LogEntry) : (s.raise e).bus_result = s.bus_result := rfl
@[simp] theorem State.raise_rot_cnt (e : LogEntry) : (s.raise e).rot_cnt = s.rot_cnt := rfl
@[simp] theorem State.raise_rot_acc (e : LogEntry) : (s.raise e).rot_acc = s.rot_acc := rfl
@[simp] theorem State.raise_epin_buf (e : LogEntry) : (s.raise e).epin_buf = s.epin_buf := rfl
@[simp] theorem State.raise_epout_buf (e : LogEntry) : (s.raise e).epout_buf = s.epout_buf := rfl
@[simp] theorem State.raise_fault_led (e : LogEntry) : (s.raise e).fault_led = s.fault_led := rfl
@[simp] theorem State.raise_fault_log (e : LogEntry) : (s.raise e).fault_log = s.fault_log ++ [e] := rfl
@[simp] theorem State.raise_seq_state (e : LogEntry) : (s.raise e).seq_state = s.seq_state := rfl
@[simp] theorem State.raise_refused (e : LogEntry) : (s.raise e).refused = s.refused := rfl
@[simp] theorem State.raise_periph_prev (e : LogEntry) : (s.raise e).periph_prev = s.periph_prev := rfl
@[simp] theorem State.raise_agent (e : LogEntry) : (s.raise e).agent = s.agent := rfl
@[simp] theorem State.raise_cmd (e : LogEntry) : (s.raise e).cmd = s.cmd := rfl
@[simp] theorem State.raise_rot_step (e : LogEntry) : (s.raise e).rot_step = s.rot_step := rfl
@[simp] theorem State.raise_ret_flag (e : LogEntry) : (s.raise e).ret_flag = s.ret_flag := rfl
@[simp] theorem State.raise_ret_sample (e : LogEntry) : (s.raise e).ret_sample = s.ret_sample := rfl
@[simp] theorem State.raise_ret_indents (e : LogEntry) : (s.raise e).ret_indents = s.ret_indents := rfl
@[simp] theorem State.raise_ret_word (e : LogEntry) : (s.raise e).ret_word = s.ret_word := rfl
@[simp] theorem State.raise_hook_sent (e : LogEntry) : (s.raise e).hook_sent = s.hook_sent := rfl
@[simp] theorem State.raise_hook_armed (e : LogEntry) : (s.raise e).hook_armed = s.hook_armed := rfl
@[simp] theorem State.raise_draws (e : LogEntry) : (s.raise e).draws = s.draws := rfl
@[simp] theorem State.raise_ep0_owed (e : LogEntry) : (s.raise e).ep0_owed = s.ep0_owed := rfl
@[simp] theorem State.raise_epin_owed (e : LogEntry) : (s.raise e).epin_owed = s.epin_owed := rfl
@[simp] theorem State.raise_rot_phase (e : LogEntry) : (s.raise e).rot_phase = s.rot_phase := rfl
@[simp] theorem State.raise_schedule (e : LogEntry) : (s.raise e).schedule = s.schedule := rfl
@[simp] theorem State.raise_oracle (e : LogEntry) : (s.raise e).oracle = s.oracle := rfl
@[simp] theorem State.raise_emitted (e : LogEntry) : (s.raise e).emitted = s.emitted := rfl
@[simp] theorem State.raise_wave (e : LogEntry) : (s.raise e).wave = s.wave := rfl

/-! ### `setFlag` -/

@[simp] theorem State.setFlag_cfg (f : Flag) : (s.setFlag f).cfg = s.cfg := rfl
@[simp] theorem State.setFlag_flags (f : Flag) : (s.setFlag f).flags = s.flags.put f true := rfl
@[simp] theorem State.setFlag_ctl_state (f : Flag) : (s.setFlag f).ctl_state = s.ctl_state := rfl
@[simp] theorem State.setFlag_ctl_phase (f : Flag) : (s.setFlag f).ctl_phase = s.ctl_phase := rfl
@[simp] theorem State.setFlag_setup_latch (f : Flag) : (s.setFlag f).setup_latch = s.setup_latch := rfl
@[simp] theorem State.setFlag_req (f : Flag) : (s.setFlag f).req = s.req := rfl
@[simp] theorem State.setFlag_reply_src (f : Flag) : (s.setFlag f).reply_src = s.reply_src := rfl
@[simp] theorem State.setFlag_reply_len (f : Flag) : (s.setFlag f).reply_len = s.reply_len := rfl
@[simp] theorem State.setFlag_reply_off (f : Flag) : (s.setFlag f).reply_off = s.reply_off := rfl
@[simp] theorem State.setFlag_zlp_pending (f : Flag) : (s.setFlag f).zlp_pending = s.zlp_pending := rfl
@[simp] theorem State.setFlag_ep0_buf (f : Flag) : (s.setFlag f).ep0_buf = s.ep0_buf := rfl
@[simp] theorem State.setFlag_ep0_len (f : Flag) : (s.setFlag f).ep0_len = s.ep0_len := rfl
@[simp] theorem State.setFlag_configured (f : Flag) : (s.setFlag f).configured = s.configured := rfl
@[simp] theorem State.setFlag_out_armed (f : Flag) : (s.setFlag f).out_armed = s.out_armed := rfl
@[simp] theorem State.setFlag_link_started (f : Flag) : (s.setFlag f).link_started = s.link_started := rfl
@[simp] theorem State.setFlag_bus_busy (f : Flag) : (s.setFlag f).bus_busy = s.bus_busy := rfl
@[simp] theorem State.setFlag_bus_txbuf (f : Flag) : (s.setFlag f).bus_txbuf = s.bus_txbuf := rfl
@[simp] theorem State.setFlag_bus_rxbuf (f : Flag) : (s.setFlag f).bus_rxbuf = s.bus_rxbuf := rfl
@[simp] theorem State.setFlag_bus_result (f : Flag) : (s.setFlag f).bus_result = s.bus_result := rfl
@[simp] theorem State.setFlag_rot_cnt (f : Flag) : (s.setFlag f).rot_cnt = s.rot_cnt := rfl
@[simp] theorem State.setFlag_rot_acc (f : Flag) : (s.setFlag f).rot_acc = s.rot_acc := rfl
@[simp] theorem State.setFlag_epin_buf (f : Flag) : (s.setFlag f).epin_buf = s.epin_buf := rfl
@[simp] theorem State.setFlag_epout_buf (f : Flag) : (s.setFlag f).epout_buf = s.epout_buf := rfl
@[simp] theorem State.setFlag_fault_led (f : Flag) : (s.setFlag f).fault_led = s.fault_led := rfl
@[simp] theorem State.setFlag_fault_log (f : Flag) : (s.setFlag f).fault_log = s.fault_log := rfl
@[simp] theorem State.setFlag_seq_state (f : Flag) : (s.setFlag f).seq_state = s.seq_state := rfl
@[simp] theorem State.setFlag_refused (f : Flag) : (s.setFlag f).refused = s.refused := rfl
@[simp] theorem State.setFlag_periph_prev (f : Flag) : (s.setFlag f).periph_prev = s.periph_prev := rfl
@[simp] theorem State.setFlag_agent (f : Flag) : (s.setFlag f).agent = s.agent := rfl
@[simp] theorem State.setFlag_cmd (f : Flag) : (s.setFlag f).cmd = s.cmd := rfl
@[simp] theorem State.setFlag_rot_step (f : Flag) : (s.setFlag f).rot_step = s.rot_step := rfl
@[simp] theorem State.setFlag_ret_flag (f : Flag) : (s.setFlag f).ret_flag = s.ret_flag := rfl
@[simp] theorem State.setFlag_ret_sample (f : Flag) : (s.setFlag f).ret_sample = s.ret_sample := rfl
@[simp] theorem State.setFlag_ret_indents (f : Flag) : (s.setFlag f).ret_indents = s.ret_indents := rfl
@[simp] theorem State.setFlag_ret_word (f : Flag) : (s.setFlag f).ret_word = s.ret_word := rfl
@[simp] theorem State.setFlag_hook_sent (f : Flag) : (s.setFlag f).hook_sent = s.hook_sent := rfl
@[simp] theorem State.setFlag_hook_armed (f : Flag) : (s.setFlag f).hook_armed = s.hook_armed := rfl
@[simp] theorem State.setFlag_draws (f : Flag) : (s.setFlag f).draws = s.draws := rfl
@[simp] theorem State.setFlag_ep0_owed (f : Flag) : (s.setFlag f).ep0_owed = s.ep0_owed := rfl
@[simp] theorem State.setFlag_epin_owed (f : Flag) : (s.setFlag f).epin_owed = s.epin_owed := rfl
@[simp] theorem State.setFlag_rot_phase (f : Flag) : (s.setFlag f).rot_phase = s.rot_phase := rfl
@[simp] theorem State.setFlag_schedule (f : Flag) : (s.setFlag f).schedule = s.schedule := rfl
@[simp] theorem State.setFlag_oracle (f : Flag) : (s.setFlag f).oracle = s.oracle := rfl
@[simp] theorem State.setFlag_emitted (f : Flag) : (s.setFlag f).emitted = s.emitted := rfl
@[simp] theorem State.setFlag_wave (f : Flag) : (s.setFlag f).wave = s.wave := rfl

/-! ### `clearFlag` -/

@[simp] theorem State.clearFlag_cfg (f : Flag) : (s.clearFlag f).cfg = s.cfg := rfl
@[simp] theorem State.clearFlag_flags (f : Flag) : (s.clearFlag f).flags = s.flags.put f false := rfl
@[simp] theorem State.clearFlag_ctl_state (f : Flag) : (s.clearFlag f).ctl_state = s.ctl_state := rfl
@[simp] theorem State.clearFlag_ctl_phase (f : Flag) : (s.clearFlag f).ctl_phase = s.ctl_phase := rfl
@[simp] theorem State.clearFlag_setup_latch (f : Flag) : (s.clearFlag f).setup_latch = s.setup_latch := rfl
@[simp] theorem State.clearFlag_req (f : Flag) : (s.clearFlag f).req = s.req := rfl
@[simp] theorem State.clearFlag_reply_src (f : Flag) : (s.clearFlag f).reply_src = s.reply_src := rfl
@[simp] theorem State.clearFlag_reply_len (f : Flag) : (s.clearFlag f).reply_len = s.reply_len := rfl
@[simp] theorem State.clearFlag_reply_off (f : Flag) : (s.clearFlag f).reply_off = s.reply_off := rfl
@[simp] theorem State.clearFlag_zlp_pending (f : Flag) : (s.clearFlag f).zlp_pending = s.zlp_pending := rfl
@[simp] theorem State.clearFlag_ep0_buf (f : Flag) : (s.clearFlag f).ep0_buf = s.ep0_buf := rfl
@[simp] theorem State.clearFlag_ep0_len (f : Flag) : (s.clearFlag f).ep0_len = s.ep0_len := rfl
@[simp] theorem State.clearFlag_configured (f : Flag) : (s.clearFlag f).configured = s.configured := rfl
@[simp] theorem State.clearFlag_out_armed (f : Flag) : (s.clearFlag f).out_armed = s.out_armed := rfl
@[simp] theorem State.clearFlag_link_started (f : Flag) : (s.clearFlag f).link_started = s.link_started := rfl
@[simp] theorem State.clearFlag_bus_busy (f : Flag) : (s.clearFlag f).bus_busy = s.bus_busy := rfl
@[simp] theorem State.clearFlag_bus_txbuf (f : Flag) : (s.clearFlag f).bus_txbuf = s.bus_txbuf := rfl
@[simp] theorem State.clearFlag_bus_rxbuf (f : Flag) : (s.clearFlag f).bus_rxbuf = s.bus_rxbuf := rfl
@[simp] theorem State.clearFlag_bus_result (f : Flag) : (s.clearFlag f).bus_result = s.bus_result := rfl
@[simp] theorem State.clearFlag_rot_cnt (f : Flag) : (s.clearFlag f).rot_cnt = s.rot_cnt := rfl
@[simp] theorem State.clearFlag_rot_acc (f : Flag) : (s.clearFlag f).rot_acc = s.rot_acc := rfl
@[simp] theorem State.clearFlag_epin_buf (f : Flag) : (s.clearFlag f).epin_buf = s.epin_buf := rfl
@[simp] theorem State.clearFlag_epout_buf (f : Flag) : (s.clearFlag f).epout_buf = s.epout_buf := rfl
@[simp] theorem State.clearFlag_fault_led (f : Flag) : (s.clearFlag f).fault_led = s.fault_led := rfl
@[simp] theorem State.clearFlag_fault_log (f : Flag) : (s.clearFlag f).fault_log = s.fault_log := rfl
@[simp] theorem State.clearFlag_seq_state (f : Flag) : (s.clearFlag f).seq_state = s.seq_state := rfl
@[simp] theorem State.clearFlag_refused (f : Flag) : (s.clearFlag f).refused = s.refused := rfl
@[simp] theorem State.clearFlag_periph_prev (f : Flag) : (s.clearFlag f).periph_prev = s.periph_prev := rfl
@[simp] theorem State.clearFlag_agent (f : Flag) : (s.clearFlag f).agent = s.agent := rfl
@[simp] theorem State.clearFlag_cmd (f : Flag) : (s.clearFlag f).cmd = s.cmd := rfl
@[simp] theorem State.clearFlag_rot_step (f : Flag) : (s.clearFlag f).rot_step = s.rot_step := rfl
@[simp] theorem State.clearFlag_ret_flag (f : Flag) : (s.clearFlag f).ret_flag = s.ret_flag := rfl
@[simp] theorem State.clearFlag_ret_sample (f : Flag) : (s.clearFlag f).ret_sample = s.ret_sample := rfl
@[simp] theorem State.clearFlag_ret_indents (f : Flag) : (s.clearFlag f).ret_indents = s.ret_indents := rfl
@[simp] theorem State.clearFlag_ret_word (f : Flag) : (s.clearFlag f).ret_word = s.ret_word := rfl
@[simp] theorem State.clearFlag_hook_sent (f : Flag) : (s.clearFlag f).hook_sent = s.hook_sent := rfl
@[simp] theorem State.clearFlag_hook_armed (f : Flag) : (s.clearFlag f).hook_armed = s.hook_armed := rfl
@[simp] theorem State.clearFlag_draws (f : Flag) : (s.clearFlag f).draws = s.draws := rfl
@[simp] theorem State.clearFlag_ep0_owed (f : Flag) : (s.clearFlag f).ep0_owed = s.ep0_owed := rfl
@[simp] theorem State.clearFlag_epin_owed (f : Flag) : (s.clearFlag f).epin_owed = s.epin_owed := rfl
@[simp] theorem State.clearFlag_rot_phase (f : Flag) : (s.clearFlag f).rot_phase = s.rot_phase := rfl
@[simp] theorem State.clearFlag_schedule (f : Flag) : (s.clearFlag f).schedule = s.schedule := rfl
@[simp] theorem State.clearFlag_oracle (f : Flag) : (s.clearFlag f).oracle = s.oracle := rfl
@[simp] theorem State.clearFlag_emitted (f : Flag) : (s.clearFlag f).emitted = s.emitted := rfl
@[simp] theorem State.clearFlag_wave (f : Flag) : (s.clearFlag f).wave = s.wave := rfl

/-! ### `stall` -/

@[simp] theorem State.stall_cfg (c : LogEntry) : (s.stall c).cfg = s.cfg := rfl
@[simp] theorem State.stall_flags (c : LogEntry) : (s.stall c).flags = s.flags := rfl
@[simp] theorem State.stall_ctl_state (c : LogEntry) : (s.stall c).ctl_state = .stalled := rfl
@[simp] theorem State.stall_ctl_phase (c : LogEntry) : (s.stall c).ctl_phase = s.ctl_phase := rfl
@[simp] theorem State.stall_setup_latch (c : LogEntry) : (s.stall c).setup_latch = s.setup_latch := rfl
@[simp] theorem State.stall_req (c : LogEntry) : (s.stall c).req = s.req := rfl
@[simp] theorem State.stall_reply_src (c : LogEntry) : (s.stall c).reply_src = s.reply_src := rfl
@[simp] theorem State.stall_reply_len (c : LogEntry) : (s.stall c).reply_len = s.reply_len := rfl
@[simp] theorem State.stall_reply_off (c : LogEntry) : (s.stall c).reply_off = s.reply_off := rfl
@[simp] theorem State.stall_zlp_pending (c : LogEntry) : (s.stall c).zlp_pending = s.zlp_pending := rfl
@[simp] theorem State.stall_ep0_buf (c : LogEntry) : (s.stall c).ep0_buf = s.ep0_buf := rfl
@[simp] theorem State.stall_ep0_len (c : LogEntry) : (s.stall c).ep0_len = s.ep0_len := rfl
@[simp] theorem State.stall_configured (c : LogEntry) : (s.stall c).configured = s.configured := rfl
@[simp] theorem State.stall_out_armed (c : LogEntry) : (s.stall c).out_armed = s.out_armed := rfl
@[simp] theorem State.stall_link_started (c : LogEntry) : (s.stall c).link_started = s.link_started := rfl
@[simp] theorem State.stall_bus_busy (c : LogEntry) : (s.stall c).bus_busy = s.bus_busy := rfl
@[simp] theorem State.stall_bus_txbuf (c : LogEntry) : (s.stall c).bus_txbuf = s.bus_txbuf := rfl
@[simp] theorem State.stall_bus_rxbuf (c : LogEntry) : (s.stall c).bus_rxbuf = s.bus_rxbuf := rfl
@[simp] theorem State.stall_bus_result (c : LogEntry) : (s.stall c).bus_result = s.bus_result := rfl
@[simp] theorem State.stall_rot_cnt (c : LogEntry) : (s.stall c).rot_cnt = s.rot_cnt := rfl
@[simp] theorem State.stall_rot_acc (c : LogEntry) : (s.stall c).rot_acc = s.rot_acc := rfl
@[simp] theorem State.stall_epin_buf (c : LogEntry) : (s.stall c).epin_buf = s.epin_buf := rfl
@[simp] theorem State.stall_epout_buf (c : LogEntry) : (s.stall c).epout_buf = s.epout_buf := rfl
@[simp] theorem State.stall_fault_led (c : LogEntry) : (s.stall c).fault_led = true := rfl
@[simp] theorem State.stall_fault_log (c : LogEntry) : (s.stall c).fault_log = s.fault_log ++ [c] := rfl
@[simp] theorem State.stall_seq_state (c : LogEntry) : (s.stall c).seq_state = s.seq_state := rfl
@[simp] theorem State.stall_refused (c : LogEntry) : (s.stall c).refused = s.refused := rfl
@[simp] theorem State.stall_periph_prev (c : LogEntry) : (s.stall c).periph_prev = s.periph_prev := rfl
@[simp] theorem State.stall_agent (c : LogEntry) : (s.stall c).agent = s.agent := rfl
@[simp] theorem State.stall_cmd (c : LogEntry) : (s.stall c).cmd = s.cmd := rfl
@[simp] theorem State.stall_rot_step (c : LogEntry) : (s.stall c).rot_step = s.rot_step := rfl
@[simp] theorem State.stall_ret_flag (c : LogEntry) : (s.stall c).ret_flag = s.ret_flag := rfl
@[simp] theorem State.stall_ret_sample (c : LogEntry) : (s.stall c).ret_sample = s.ret_sample := rfl
@[simp] theorem State.stall_ret_indents (c : LogEntry) : (s.stall c).ret_indents = s.ret_indents := rfl
@[simp] theorem State.stall_ret_word (c : LogEntry) : (s.stall c).ret_word = s.ret_word := rfl
@[simp] theorem State.stall_hook_sent (c : LogEntry) : (s.stall c).hook_sent = s.hook_sent := rfl
@[simp] theorem State.stall_hook_armed (c : LogEntry) : (s.stall c).hook_armed = s.hook_armed := rfl
@[simp] theorem State.stall_draws (c : LogEntry) : (s.stall c).draws = s.draws := rfl
@[simp] theorem State.stall_ep0_owed (c : LogEntry) : (s.stall c).ep0_owed = s.ep0_owed := rfl
@[simp] theorem State.stall_epin_owed (c : LogEntry) : (s.stall c).epin_owed = s.epin_owed := rfl
@[simp] theorem State.stall_rot_phase (c : LogEntry) : (s.stall c).rot_phase = s.rot_phase := rfl
@[simp] theorem State.stall_schedule (c : LogEntry) : (s.stall c).schedule = s.schedule := rfl
@[simp] theorem State.stall_oracle (c : LogEntry) : (s.stall c).oracle = s.oracle := rfl
@[simp] theorem State.stall_emitted (c : LogEntry) : (s.stall c).emitted = s.emitted ++ [.ep0Stall] := rfl
@[simp] theorem State.stall_wave (c : LogEntry) : (s.stall c).wave = s.wave := rfl

/-! ### `decodeLatch` -/

@[simp] theorem State.decodeLatch_cfg : (s.decodeLatch).cfg = s.cfg := rfl
@[simp] theorem State.decodeLatch_flags : (s.decodeLatch).flags = s.flags := rfl
@[simp] theorem State.decodeLatch_ctl_state : (s.decodeLatch).ctl_state = .setupDecoded := rfl
@[simp] theorem State.decodeLatch_ctl_phase : (s.decodeLatch).ctl_phase = s.ctl_phase := rfl
@[simp] theorem State.decodeLatch_setup_latch : (s.decodeLatch).setup_latch = s.setup_latch := rfl
@[simp] theorem State.decodeLatch_req : (s.decodeLatch).req = .ofBytes s.setup_latch := rfl
@[simp] theorem State.decodeLatch_reply_src : (s.decodeLatch).reply_src = none := rfl
@[simp] theorem State.decodeLatch_reply_len : (s.decodeLatch).reply_len = 0 := rfl
@[simp] theorem State.decodeLatch_reply_off : (s.decodeLatch).reply_off = 0 := rfl
@[simp] theorem State.decodeLatch_zlp_pending : (s.decodeLatch).zlp_pending = false := rfl
@[simp] theorem State.decodeLatch_ep0_buf : (s.decodeLatch).ep0_buf = s.ep0_buf := rfl
@[simp] theorem State.decodeLatch_ep0_len : (s.decodeLatch).ep0_len = s.ep0_len := rfl
@[simp] theorem State.decodeLatch_configured : (s.decodeLatch).configured = s.configured := rfl
@[simp] theorem State.decodeLatch_out_armed : (s.decodeLatch).out_armed = s.out_armed := rfl
@[simp] theorem State.decodeLatch_link_started : (s.decodeLatch).link_started = s.link_started := rfl
@[simp] theorem State.decodeLatch_bus_busy : (s.decodeLatch).bus_busy = s.bus_busy := rfl
@[simp] theorem State.decodeLatch_bus_txbuf : (s.decodeLatch).bus_txbuf = s.bus_txbuf := rfl
@[simp] theorem State.decodeLatch_bus_rxbuf : (s.decodeLatch).bus_rxbuf = s.bus_rxbuf := rfl
@[simp] theorem State.decodeLatch_bus_result : (s.decodeLatch).bus_result = s.bus_result := rfl
@[simp] theorem State.decodeLatch_rot_cnt : (s.decodeLatch).rot_cnt = s.rot_cnt := rfl
@[simp] theorem State.decodeLatch_rot_acc : (s.decodeLatch).rot_acc = s.rot_acc := rfl
@[simp] theorem State.decodeLatch_epin_buf : (s.decodeLatch).epin_buf = s.epin_buf := rfl
@[simp] theorem State.decodeLatch_epout_buf : (s.decodeLatch).epout_buf = s.epout_buf := rfl
@[simp] theorem State.decodeLatch_fault_led : (s.decodeLatch).fault_led = s.fault_led := rfl
@[simp] theorem State.decodeLatch_fault_log : (s.decodeLatch).fault_log = s.fault_log := rfl
@[simp] theorem State.decodeLatch_seq_state : (s.decodeLatch).seq_state = s.seq_state := rfl
@[simp] theorem State.decodeLatch_refused : (s.decodeLatch).refused = s.refused := rfl
@[simp] theorem State.decodeLatch_periph_prev : (s.decodeLatch).periph_prev = s.periph_prev := rfl
@[simp] theorem State.decodeLatch_agent : (s.decodeLatch).agent = s.agent := rfl
@[simp] theorem State.decodeLatch_cmd : (s.decodeLatch).cmd = s.cmd := rfl
@[simp] theorem State.decodeLatch_rot_step : (s.decodeLatch).rot_step = s.rot_step := rfl
@[simp] theorem State.decodeLatch_ret_flag : (s.decodeLatch).ret_flag = s.ret_flag := rfl
@[simp] theorem State.decodeLatch_ret_sample : (s.decodeLatch).ret_sample = s.ret_sample := rfl
@[simp] theorem State.decodeLatch_ret_indents : (s.decodeLatch).ret_indents = s.ret_indents := rfl
@[simp] theorem State.decodeLatch_ret_word : (s.decodeLatch).ret_word = s.ret_word := rfl
@[simp] theorem State.decodeLatch_hook_sent : (s.decodeLatch).hook_sent = s.hook_sent := rfl
@[simp] theorem State.decodeLatch_hook_armed : (s.decodeLatch).hook_armed = s.hook_armed := rfl
@[simp] theorem State.decodeLatch_draws : (s.decodeLatch).draws = s.draws := rfl
@[simp] theorem State.decodeLatch_ep0_owed : (s.decodeLatch).ep0_owed = s.ep0_owed := rfl
@[simp] theorem State.decodeLatch_epin_owed : (s.decodeLatch).epin_owed = s.epin_owed := rfl
@[simp] theorem State.decodeLatch_rot_phase : (s.decodeLatch).rot_phase = s.rot_phase := rfl
@[simp] theorem State.decodeLatch_schedule : (s.decodeLatch).schedule = s.schedule := rfl
@[simp] theorem State.decodeLatch_oracle : (s.decodeLatch).oracle = s.oracle := rfl
@[simp] theorem State.decodeLatch_emitted : (s.decodeLatch).emitted = s.emitted := rfl
@[simp] theorem State.decodeLatch_wave : (s.decodeLatch).wave = s.wave := rfl

/-! ### `xferReturn` -/

@[simp] theorem State.xferReturn_cfg (a : AfterXfer) (v : Half) : (s.xferReturn a v).cfg = s.cfg := rfl
@[simp] theorem State.xferReturn_flags (a : AfterXfer) (v : Half) : (s.xferReturn a v).flags = s.flags := rfl
@[simp] theorem State.xferReturn_ctl_state (a : AfterXfer) (v : Half) : (s.xferReturn a v).ctl_state = s.ctl_state := rfl
@[simp] theorem State.xferReturn_ctl_phase (a : AfterXfer) (v : Half) : (s.xferReturn a v).ctl_phase = s.ctl_phase := rfl
@[simp] theorem State.xferReturn_setup_latch (a : AfterXfer) (v : Half) : (s.xferReturn a v).setup_latch = s.setup_latch := rfl
@[simp] theorem State.xferReturn_req (a : AfterXfer) (v : Half) : (s.xferReturn a v).req = s.req := rfl
@[simp] theorem State.xferReturn_reply_src (a : AfterXfer) (v : Half) : (s.xferReturn a v).reply_src = s.reply_src := rfl
@[simp] theorem State.xferReturn_reply_len (a : AfterXfer) (v : Half) : (s.xferReturn a v).reply_len = s.reply_len := rfl
@[simp] theorem State.xferReturn_reply_off (a : AfterXfer) (v : Half) : (s.xferReturn a v).reply_off = s.reply_off := rfl
@[simp] theorem State.xferReturn_zlp_pending (a : AfterXfer) (v : Half) : (s.xferReturn a v).zlp_pending = s.zlp_pending := rfl
@[simp] theorem State.xferReturn_ep0_buf (a : AfterXfer) (v : Half) : (s.xferReturn a v).ep0_buf = s.ep0_buf := rfl
@[simp] theorem State.xferReturn_ep0_len (a : AfterXfer) (v : Half) : (s.xferReturn a v).ep0_len = s.ep0_len := rfl
@[simp] theorem State.xferReturn_configured (a : AfterXfer) (v : Half) : (s.xferReturn a v).configured = s.configured := rfl
@[simp] theorem State.xferReturn_out_armed (a : AfterXfer) (v : Half) : (s.xferReturn a v).out_armed = s.out_armed := rfl
@[simp] theorem State.xferReturn_link_started (a : AfterXfer) (v : Half) : (s.xferReturn a v).link_started = s.link_started := rfl
@[simp] theorem State.xferReturn_bus_busy (a : AfterXfer) (v : Half) : (s.xferReturn a v).bus_busy = s.bus_busy := rfl
@[simp] theorem State.xferReturn_bus_txbuf (a : AfterXfer) (v : Half) : (s.xferReturn a v).bus_txbuf = s.bus_txbuf := rfl
@[simp] theorem State.xferReturn_bus_rxbuf (a : AfterXfer) (v : Half) : (s.xferReturn a v).bus_rxbuf = s.bus_rxbuf := rfl
@[simp] theorem State.xferReturn_bus_result (a : AfterXfer) (v : Half) : (s.xferReturn a v).bus_result = s.bus_result := rfl
@[simp] theorem State.xferReturn_rot_cnt (a : AfterXfer) (v : Half) : (s.xferReturn a v).rot_cnt = s.rot_cnt := rfl
@[simp] theorem State.xferReturn_rot_acc (a : AfterXfer) (v : Half) : (s.xferReturn a v).rot_acc = s.rot_acc := rfl
@[simp] theorem State.xferReturn_epin_buf (a : AfterXfer) (v : Half) : (s.xferReturn a v).epin_buf = s.epin_buf := rfl
@[simp] theorem State.xferReturn_epout_buf (a : AfterXfer) (v : Half) : (s.xferReturn a v).epout_buf = s.epout_buf := rfl
@[simp] theorem State.xferReturn_fault_led (a : AfterXfer) (v : Half) : (s.xferReturn a v).fault_led = s.fault_led := rfl
@[simp] theorem State.xferReturn_fault_log (a : AfterXfer) (v : Half) : (s.xferReturn a v).fault_log = s.fault_log := rfl
@[simp] theorem State.xferReturn_seq_state (a : AfterXfer) (v : Half) : (s.xferReturn a v).seq_state = s.seq_state := rfl
@[simp] theorem State.xferReturn_refused (a : AfterXfer) (v : Half) : (s.xferReturn a v).refused = s.refused := rfl
@[simp] theorem State.xferReturn_periph_prev (a : AfterXfer) (v : Half) : (s.xferReturn a v).periph_prev = s.periph_prev := rfl
@[simp] theorem State.xferReturn_agent (a : AfterXfer) (v : Half) : (s.xferReturn a v).agent = s.agent := rfl
@[simp] theorem State.xferReturn_cmd (a : AfterXfer) (v : Half) : (s.xferReturn a v).cmd = a.pos := rfl
@[simp] theorem State.xferReturn_rot_step (a : AfterXfer) (v : Half) : (s.xferReturn a v).rot_step = s.rot_step := rfl
@[simp] theorem State.xferReturn_ret_flag (a : AfterXfer) (v : Half) : (s.xferReturn a v).ret_flag = s.ret_flag := rfl
@[simp] theorem State.xferReturn_ret_sample (a : AfterXfer) (v : Half) : (s.xferReturn a v).ret_sample = s.ret_sample := rfl
@[simp] theorem State.xferReturn_ret_indents (a : AfterXfer) (v : Half) : (s.xferReturn a v).ret_indents = s.ret_indents := rfl
@[simp] theorem State.xferReturn_ret_word (a : AfterXfer) (v : Half) : (s.xferReturn a v).ret_word = v := rfl
@[simp] theorem State.xferReturn_hook_sent (a : AfterXfer) (v : Half) : (s.xferReturn a v).hook_sent = s.hook_sent := rfl
@[simp] theorem State.xferReturn_hook_armed (a : AfterXfer) (v : Half) : (s.xferReturn a v).hook_armed = s.hook_armed := rfl
@[simp] theorem State.xferReturn_draws (a : AfterXfer) (v : Half) : (s.xferReturn a v).draws = s.draws := rfl
@[simp] theorem State.xferReturn_ep0_owed (a : AfterXfer) (v : Half) : (s.xferReturn a v).ep0_owed = s.ep0_owed := rfl
@[simp] theorem State.xferReturn_epin_owed (a : AfterXfer) (v : Half) : (s.xferReturn a v).epin_owed = s.epin_owed := rfl
@[simp] theorem State.xferReturn_rot_phase (a : AfterXfer) (v : Half) : (s.xferReturn a v).rot_phase = s.rot_phase := rfl
@[simp] theorem State.xferReturn_schedule (a : AfterXfer) (v : Half) : (s.xferReturn a v).schedule = s.schedule := rfl
@[simp] theorem State.xferReturn_oracle (a : AfterXfer) (v : Half) : (s.xferReturn a v).oracle = s.oracle := rfl
@[simp] theorem State.xferReturn_emitted (a : AfterXfer) (v : Half) : (s.xferReturn a v).emitted = s.emitted := rfl
@[simp] theorem State.xferReturn_wave (a : AfterXfer) (v : Half) : (s.xferReturn a v).wave = s.wave := rfl

/-! ### `fresh` -/

@[simp] theorem State.fresh_cfg : (s.fresh).cfg = s.cfg := rfl
@[simp] theorem State.fresh_flags : (s.fresh).flags = s.flags := rfl
@[simp] theorem State.fresh_ctl_state : (s.fresh).ctl_state = s.ctl_state := rfl
@[simp] theorem State.fresh_ctl_phase : (s.fresh).ctl_phase = s.ctl_phase := rfl
@[simp] theorem State.fresh_setup_latch : (s.fresh).setup_latch = s.setup_latch := rfl
@[simp] theorem State.fresh_req : (s.fresh).req = s.req := rfl
@[simp] theorem State.fresh_reply_src : (s.fresh).reply_src = s.reply_src := rfl
@[simp] theorem State.fresh_reply_len : (s.fresh).reply_len = s.reply_len := rfl
@[simp] theorem State.fresh_reply_off : (s.fresh).reply_off = s.reply_off := rfl
@[simp] theorem State.fresh_zlp_pending : (s.fresh).zlp_pending = s.zlp_pending := rfl
@[simp] theorem State.fresh_ep0_buf : (s.fresh).ep0_buf = s.ep0_buf := rfl
@[simp] theorem State.fresh_ep0_len : (s.fresh).ep0_len = s.ep0_len := rfl
@[simp] theorem State.fresh_configured : (s.fresh).configured = s.configured := rfl
@[simp] theorem State.fresh_out_armed : (s.fresh).out_armed = s.out_armed := rfl
@[simp] theorem State.fresh_link_started : (s.fresh).link_started = s.link_started := rfl
@[simp] theorem State.fresh_bus_busy : (s.fresh).bus_busy = s.bus_busy := rfl
@[simp] theorem State.fresh_bus_txbuf : (s.fresh).bus_txbuf = s.bus_txbuf := rfl
@[simp] theorem State.fresh_bus_rxbuf : (s.fresh).bus_rxbuf = s.bus_rxbuf := rfl
@[simp] theorem State.fresh_bus_result : (s.fresh).bus_result = s.bus_result := rfl
@[simp] theorem State.fresh_rot_cnt : (s.fresh).rot_cnt = s.rot_cnt := rfl
@[simp] theorem State.fresh_rot_acc : (s.fresh).rot_acc = s.rot_acc := rfl
@[simp] theorem State.fresh_epin_buf : (s.fresh).epin_buf = s.epin_buf := rfl
@[simp] theorem State.fresh_epout_buf : (s.fresh).epout_buf = s.epout_buf := rfl
@[simp] theorem State.fresh_fault_led : (s.fresh).fault_led = s.fault_led := rfl
@[simp] theorem State.fresh_fault_log : (s.fresh).fault_log = s.fault_log := rfl
@[simp] theorem State.fresh_seq_state : (s.fresh).seq_state = s.seq_state := rfl
@[simp] theorem State.fresh_refused : (s.fresh).refused = s.refused := rfl
@[simp] theorem State.fresh_periph_prev : (s.fresh).periph_prev = s.periph_prev := rfl
@[simp] theorem State.fresh_agent : (s.fresh).agent = s.agent := rfl
@[simp] theorem State.fresh_cmd : (s.fresh).cmd = s.cmd := rfl
@[simp] theorem State.fresh_rot_step : (s.fresh).rot_step = s.rot_step := rfl
@[simp] theorem State.fresh_ret_flag : (s.fresh).ret_flag = s.ret_flag := rfl
@[simp] theorem State.fresh_ret_sample : (s.fresh).ret_sample = s.ret_sample := rfl
@[simp] theorem State.fresh_ret_indents : (s.fresh).ret_indents = s.ret_indents := rfl
@[simp] theorem State.fresh_ret_word : (s.fresh).ret_word = s.ret_word := rfl
@[simp] theorem State.fresh_hook_sent : (s.fresh).hook_sent = s.hook_sent := rfl
@[simp] theorem State.fresh_hook_armed : (s.fresh).hook_armed = s.hook_armed := rfl
@[simp] theorem State.fresh_draws : (s.fresh).draws = s.draws := rfl
@[simp] theorem State.fresh_ep0_owed : (s.fresh).ep0_owed = s.ep0_owed := rfl
@[simp] theorem State.fresh_epin_owed : (s.fresh).epin_owed = s.epin_owed := rfl
@[simp] theorem State.fresh_rot_phase : (s.fresh).rot_phase = s.rot_phase := rfl
@[simp] theorem State.fresh_schedule : (s.fresh).schedule = s.schedule := rfl
@[simp] theorem State.fresh_oracle : (s.fresh).oracle = s.oracle := rfl
@[simp] theorem State.fresh_emitted : (s.fresh).emitted = [] := rfl
@[simp] theorem State.fresh_wave : (s.fresh).wave = [] := rfl

end Sys2Proof.Machine
end

