-- ==== Sys2Proof/Laws/Flags.lean ====
section
/-! SUPPORT. Reading a flag after setting or clearing one, and what `testAndClear` can do. -/

namespace Sys2Proof.Machine

@[simp] theorem Flags.get_put_self (fl : Flags) (f : Flag) (v : Bool) : (fl.put f v).get f = v := by
  cases f <;> rfl

theorem Flags.get_put_of_ne (fl : Flags) {f g : Flag} (v : Bool) (h : g ≠ f) : (fl.put f v).get g = fl.get g := by
  cases f <;> cases g <;> first | rfl | exact absurd rfl h

/-- Reading any flag after any one was written. -/
theorem Flags.get_put (fl : Flags) (f g : Flag) (v : Bool) :
    (fl.put f v).get g = if g = f then v else fl.get g := by
  split
  · next h => subst h; exact Flags.get_put_self ..
  · next h => exact Flags.get_put_of_ne _ _ h

/-- Writing the value a flag holds changes nothing. -/
@[simp] theorem Flags.put_get (fl : Flags) (f : Flag) : fl.put f (fl.get f) = fl := by
  cases f <;> rfl

theorem State.flag_setFlag (s : State) (f g : Flag) : (s.setFlag f).flag g = if g = f then true else s.flag g := by
  simp [State.flag, Flags.get_put]

theorem State.flag_clearFlag (s : State) (f g : Flag) :
    (s.clearFlag f).flag g = if g = f then false else s.flag g := by
  simp [State.flag, Flags.get_put]

/-- What a `TestAndClear` of SQ answers (R121). -/
theorem testAndClear_sq {f : Flag} {s : State} (h : s.agent = .sq) :
    testAndClear f s = .next { s.clearFlag f with ret_flag := s.flag f } := by
  simp [testAndClear, h]

/-- `TestAndClear` has a next state only for SQ, and then it is this one. -/
theorem testAndClear_cases {f : Flag} {s t : State} (h : testAndClear f s = .next t) :
    s.agent = .sq ∧ t = { s.clearFlag f with ret_flag := s.flag f } := by
  unfold testAndClear at h
  split at h
  · next ha => exact ⟨ha, by simpa using h.symm⟩
  · exact absurd h (by simp)

end Sys2Proof.Machine
end

