-- ==== Sys2Proof/Laws/Ops.lean ====
section
/-! SUPPORT. What each shared operation can do, said once: if it answers a next state, then one of these cases holds.
Memory laws first. -/

namespace Sys2Proof.Machine

/-! ### Buffers -/

@[simp] theorem splice_toList {n : Nat} (v : Vector Byte n) (addr : Nat) (bs : List Byte) (h : addr + bs.length ≤ n) :
    (splice v addr bs h).toList = v.toList.take addr ++ bs ++ v.toList.drop (addr + bs.length) := by
  simp [splice, Vector.toList]

/-- A byte inside the written range reads as the byte written. -/
theorem splice_inside {n : Nat} (v : Vector Byte n) (addr : Nat) (bs : List Byte) (h : addr + bs.length ≤ n) {i : Nat}
    (hi : i < bs.length) : (splice v addr bs h).toList[addr + i]? = bs[i]? := by
  have hl : (v.toList.take addr).length = addr := by simp; omega
  rw [splice_toList, List.append_assoc, List.getElem?_append_right (by omega), hl, Nat.add_sub_cancel_left,
    List.getElem?_append_left hi]

/-- A byte outside the written range reads as before. -/
theorem splice_outside {n : Nat} (v : Vector Byte n) (addr : Nat) (bs : List Byte) (h : addr + bs.length ≤ n) {i : Nat}
    (hi : i < addr ∨ addr + bs.length ≤ i) : (splice v addr bs h).toList[i]? = v.toList[i]? := by
  have hl : (v.toList.take addr).length = addr := by simp; omega
  rw [splice_toList]
  rcases hi with hi | hi
  · rw [List.append_assoc, List.getElem?_append_left (by omega), List.getElem?_take_of_lt hi]
  · rw [List.getElem?_append_right (by simp; omega), List.getElem?_drop]
    congr 1
    simp
    omega

/-- What a `MemRead` answers (R11). -/
theorem memRead_eq {sp : Space} {addr n : Nat} {s : State} (h : addr + n ≤ (spaceBytes s sp).length) :
    memRead sp addr n s = some (((spaceBytes s sp).drop addr).take n) := by
  simp [memRead, h]

theorem memRead_length {sp : Space} {addr n : Nat} {s : State} {bs : List Byte} (h : memRead sp addr n s = some bs) :
    bs.length = n := by
  unfold memRead at h
  split at h
  · next hle =>
    obtain rfl := Option.some.inj h
    rw [List.length_take, List.length_drop]
    omega
  · cases h

/-! ### Outcomes -/

@[simp] theorem afterNext_next (t : State) (f : State → State) : afterNext (.next t) f = .next (f t) := rfl
@[simp] theorem afterNext_refused (r : Refusal) (f : State → State) : afterNext (.refused r) f = .refused r := rfl

theorem afterNext_eq_next {o : Result} {f : State → State} {t : State} (h : afterNext o f = .next t) :
    ∃ u, o = .next u ∧ t = f u := by
  cases o with
  | next u => exact ⟨u, rfl, by simpa [afterNext] using h.symm⟩
  | fault r => cases h
  | refused r => cases h

theorem afterNext_eq_refused {o : Result} {f : State → State} {r : Refusal} (h : afterNext o f = .refused r) :
    o = .refused r := by
  cases o with
  | next u => cases h
  | fault r => cases h
  | refused r => simpa [afterNext] using h

/-! ### The refused state (R11, R301, R340) -/

theorem LogEntry.isStall_iff (e : LogEntry) : e.isStall = true ↔ e.outcomeClass = .stall := by
  cases e <;> simp [LogEntry.outcomeClass, LogEntry.isStall]

/-- A refusal with a reset still to come marks the state, and changes nothing else. -/
theorem State.refuse_marks {s : State} (r : Refusal) (h : s.schedule.any Turn.isReset = true) :
    s.refuse r = .next { s with refused := some r } := by
  rw [State.refuse, if_pos h]

/-- A refusal with no reset to come ends the run. -/
theorem State.refuse_ends {s : State} (r : Refusal) (h : s.schedule.any Turn.isReset = false) :
    s.refuse r = .refused r := by
  rw [State.refuse, if_neg (by simp [h])]

theorem State.refuse_cases {s t : State} {r : Refusal} (h : s.refuse r = .next t) :
    s.schedule.any Turn.isReset = true ∧ t = { s with refused := some r } := by
  unfold State.refuse at h
  split at h
  · next ha => exact ⟨ha, (Host.Outcome.next.inj h).symm⟩
  · cases h

@[simp] theorem State.settle_next (s t : State) : s.settle (.next t) = .next t := rfl
@[simp] theorem State.settle_fault (s : State) (r : Fault) : s.settle (.fault r) = .fault r := rfl
@[simp] theorem State.settle_envDuty (s : State) (e : EnvEvent) :
    s.settle (.refused (.envDuty e)) = .refused (.envDuty e) := rfl
@[simp] theorem State.settle_hookContract (s : State) (k : Hook) :
    s.settle (.refused (.hookContract k)) = .refused (.hookContract k) := rfl

/-- What a settled outcome with a next state was: that next state, or a refusal of class REFUSE before a reset. -/
theorem State.settle_cases {s t : State} {o : Result} (h : s.settle o = .next t) :
    o = .next t ∨ ∃ r, o = .refused r ∧ r.outcomeClass = some .refuse ∧ s.schedule.any Turn.isReset = true ∧
      t = { s with refused := some r } := by
  unfold State.settle at h
  split at h
  · exact .inl h
  · cases h
  · split at h
    · next hc => exact .inr ⟨_, rfl, hc, State.refuse_cases h⟩
    · cases h

theorem State.settle_refused {s : State} {o : Result} {r : Refusal} (h : s.settle o = .refused r) : o = .refused r := by
  unfold State.settle at h
  split at h
  · cases h
  · cases h
  · split at h
    · unfold State.refuse at h
      split at h
      · cases h
      · exact h
    · exact h

theorem State.attempt_of_none {s : State} (o : Result) (h : s.refused = none) : s.attempt o = s.settle o := by
  rw [State.attempt, h]

theorem State.attempt_of_some {s : State} {r : Refusal} (o : Result) (h : s.refused = some r) :
    s.attempt o = s.refuse r := by
  rw [State.attempt, h]

/-! ### The wait (R123) -/

theorem waitFlag_eq_some {f : Flag} {s : State} {k : State → State} {o : Result} (h : waitFlag f s k = some o) :
    s.flag f = true ∧ o = .next (k (s.clearFlag f)) := by
  unfold waitFlag at h
  split at h
  · next hf => exact ⟨hf, (Option.some.inj h).symm⟩
  · cases h

/-- The wait on a flag that is 1 (R123). -/
theorem waitFlag_set {f : Flag} {s : State} (k : State → State) (h : s.flag f = true) :
    waitFlag f s k = some (.next (k (s.clearFlag f))) := by
  rw [waitFlag, if_pos h]

/-- The wait on a flag that is 0 (R123). -/
theorem waitFlag_clear {f : Flag} {s : State} (k : State → State) (h : s.flag f = false) : waitFlag f s k = none := by
  rw [waitFlag, if_neg (by simp [h])]

/-! ### The bus -/

/-- The start of a transaction, when it goes well (R145). -/
theorem startXfer_next {after : AfterXfer} {w : Half} {s : State} (ha : knowsAddr s.cfg (busAddr w) = true)
    (hb : s.bus_busy = false) (hs : s.agent = .sq) :
    startXfer after w s = .next (State.emit { s.clearFlag .busDone with
      bus_txbuf := busBytes w, bus_busy := true, cmd := .busWait after } (.busStart (busBytes w))) := by
  simp [startXfer, ha, hb, hs]

/-- The start of a transaction to an unknown address (R143). -/
theorem startXfer_unknown {after : AfterXfer} {w : Half} {s : State} (ha : knowsAddr s.cfg (busAddr w) = false) :
    startXfer after w s = .refused (.busUnknownAddr w) := by
  rw [startXfer, if_pos ha]

/-- The start of a transaction while one is in flight (R144, R301). -/
theorem startXfer_busy {after : AfterXfer} {w : Half} {s : State} (ha : knowsAddr s.cfg (busAddr w) = true)
    (hb : s.bus_busy = true) :
    startXfer after w s =
      .next { (s.raise (.busBusy w)).xferReturn after (Config.freeWord s.draws) with draws := s.draws + 1 } := by
  rw [startXfer, if_neg (by simp [ha]), if_pos hb]

/-- Everything the start of a transaction can do when it has a next state (R143 to R145, R301). -/
theorem startXfer_cases {after : AfterXfer} {w : Half} {s t : State} (h : startXfer after w s = .next t) :
    (s.bus_busy = true ∧
      t = { (s.raise (.busBusy w)).xferReturn after (Config.freeWord s.draws) with draws := s.draws + 1 }) ∨
    (s.bus_busy = false ∧ s.agent = .sq ∧ knowsAddr s.cfg (busAddr w) = true ∧
      t = State.emit { s.clearFlag .busDone with
        bus_txbuf := busBytes w, bus_busy := true, cmd := .busWait after } (.busStart (busBytes w))) := by
  unfold startXfer at h
  split at h
  · cases h
  · next ha =>
    split at h
    · next hb => exact .inl ⟨hb, by simpa using h.symm⟩
    · next hb =>
      split at h
      · next hs => exact .inr ⟨by simpa using hb, hs, by simpa using ha, by simpa using h.symm⟩
      · cases h

theorem startXfer_refused {after : AfterXfer} {w : Half} {s : State} {r : Refusal}
    (h : startXfer after w s = .refused r) :
    r = .busUnknownAddr w ∨ (s.agent = .env ∧ r = .flagWriter .busDone) := by
  unfold startXfer at h
  split at h
  · exact .inl (by simpa using h.symm)
  · split at h
    · cases h
    · split at h
      · cases h
      · next hs =>
        refine .inr ⟨?_, by simpa using h.symm⟩
        cases ha : s.agent
        · exact absurd ha hs
        · rfl

/-- The step that ends the wait of a transaction (R147). -/
theorem finishXfer_eq (after : AfterXfer) (s : State) :
    s.finishXfer after = { s with
      bus_result := wordOfBus s.bus_rxbuf, ret_word := wordOfBus s.bus_rxbuf, cmd := after.pos } := rfl

/-! ### The endpoints -/

/-- The start of an EP0 transfer (R213, R230). -/
theorem startEp0_next {bytes : List Byte} {s : State} (h : 0 + bytes.length ≤ 64) (hs : s.agent = .sq) :
    startEp0 bytes s = .next { s with
      ep0_buf := splice s.ep0_buf 0 bytes h
      flags := ((s.flags.put .ep0Started false).put .ep0Ended false).put .ep0DataDone false
      ep0_len := BitVec.ofNat 7 bytes.length
      ctl_phase := .waitStarted
      ep0_owed := s.ep0_owed ++ [.started]
      emitted := s.emitted ++ [.epInStart .ep0 bytes] } := by
  have h' : bytes.length ≤ 64 := by omega
  simp [startEp0, memWrite, h', hs, State.clearFlag, State.emit]

theorem startEp0_cases {bytes : List Byte} {s t : State} (h : startEp0 bytes s = .next t) :
    ∃ hl : 0 + bytes.length ≤ 64, s.agent = .sq ∧ t = { s with
      ep0_buf := splice s.ep0_buf 0 bytes hl
      flags := ((s.flags.put .ep0Started false).put .ep0Ended false).put .ep0DataDone false
      ep0_len := BitVec.ofNat 7 bytes.length
      ctl_phase := .waitStarted
      ep0_owed := s.ep0_owed ++ [.started]
      emitted := s.emitted ++ [.epInStart .ep0 bytes] } := by
  have hl : 0 + bytes.length ≤ 64 := by
    by_contra hn
    have : ¬ bytes.length ≤ 64 := by omega
    simp [startEp0, memWrite, this] at h
  have hs : s.agent = .sq := by
    by_contra hn
    have : bytes.length ≤ 64 := by omega
    simp [startEp0, memWrite, this, hn] at h
  exact ⟨hl, hs, by simpa [startEp0_next hl hs] using h.symm⟩

/-- The start of an interrupt-IN transfer (R230). -/
theorem startEpIn_next {bytes : List Byte} {s : State} (h : 0 + bytes.length ≤ 5) (hs : s.agent = .sq) :
    startEpIn bytes s = .next { s with
      epin_buf := splice s.epin_buf 0 bytes h
      flags := (s.flags.put .epInStarted false).put .epInEnded false
      cmd := .inStarted
      epin_owed := s.epin_owed ++ [.started]
      emitted := s.emitted ++ [.epInStart .epIn bytes] } := by
  have h' : bytes.length ≤ 5 := by omega
  simp [startEpIn, memWrite, h', hs, State.clearFlag, State.emit]

theorem startEpIn_cases {bytes : List Byte} {s t : State} (h : startEpIn bytes s = .next t) :
    ∃ hl : 0 + bytes.length ≤ 5, s.agent = .sq ∧ t = { s with
      epin_buf := splice s.epin_buf 0 bytes hl
      flags := (s.flags.put .epInStarted false).put .epInEnded false
      cmd := .inStarted
      epin_owed := s.epin_owed ++ [.started]
      emitted := s.emitted ++ [.epInStart .epIn bytes] } := by
  have hl : 0 + bytes.length ≤ 5 := by
    by_contra hn
    have : ¬ bytes.length ≤ 5 := by omega
    simp [startEpIn, memWrite, this] at h
  have hs : s.agent = .sq := by
    by_contra hn
    have : bytes.length ≤ 5 := by omega
    simp [startEpIn, memWrite, this, hn] at h
  exact ⟨hl, hs, by simpa [startEpIn_next hl hs] using h.symm⟩

/-! ### Replies -/

theorem replyLen_le (n : Nat) (w : Half) : (replyLen n w).toNat ≤ n := by
  have := w.isLt
  rw [replyLen, BitVec.toNat_ofNat]
  omega

/-- A reply of no byte (R212). -/
theorem replyFrom_empty {id : DescId} {l : Half} {s : State} (h : replyLen (descRom s.cfg id).length l = 0) :
    replyFrom id l s = { s with
      reply_src := some id, reply_len := replyLen (descRom s.cfg id).length l, ctl_state := .status } := by
  simp only [replyFrom]
  rw [if_pos h]

/-- A reply with a byte to send (R212). -/
theorem replyFrom_data {id : DescId} {l : Half} {s : State} (h : replyLen (descRom s.cfg id).length l ≠ 0) :
    replyFrom id l s = { s with
      reply_src := some id
      reply_len := replyLen (descRom s.cfg id).length l
      reply_off := 0
      zlp_pending := zlpNeeded s.cfg (replyLen (descRom s.cfg id).length l) l
      ctl_state := .dataIn
      ctl_phase := .stage } := by
  simp only [replyFrom]
  rw [if_neg h]

/-! ### i32 -/

theorem fitsI32_iff (x : Int) : fitsI32 x = true ↔ -2147483648 ≤ x ∧ x ≤ 2147483647 :=
  decide_eq_true_iff

/-- An `i32` register holds a number of its range exactly. -/
theorem toInt_ofInt_of_fits {x : Int} (h : fitsI32 x = true) : (BitVec.ofInt 32 x).toInt = x := by
  rw [fitsI32_iff] at h
  rw [BitVec.toInt_ofInt, Int.bmod_def]
  split <;> omega

/-- Every register's number is in the range. -/
theorem fitsI32_toInt (x : I32) : fitsI32 x.toInt = true := by
  rw [fitsI32_iff]
  have h1 := BitVec.le_toInt x
  have h2 := BitVec.toInt_lt (x := x)
  norm_num at h1 h2
  omega

/-- Division rounded toward zero by 4: what it leaves lies in -3..3 and does not have the other sign (R174, R175). -/
theorem truncDiv_four (x : Int) :
    -3 ≤ x - 4 * truncDiv x 4 ∧ x - 4 * truncDiv x 4 ≤ 3 ∧ (0 ≤ x → 0 ≤ x - 4 * truncDiv x 4) ∧
      (x ≤ 0 → x - 4 * truncDiv x 4 ≤ 0) := by
  unfold truncDiv
  rcases Int.le_total 0 x with h | h
  · rw [Int.tdiv_eq_ediv_of_nonneg h]; omega
  · obtain ⟨y, rfl⟩ : ∃ y, x = -y := ⟨-x, by omega⟩
    rw [Int.neg_tdiv, Int.tdiv_eq_ediv_of_nonneg (by omega)]; omega

/-- The accumulate step on a sum in range (R173). -/
theorem execRotAccumulate_fits {p : I32} {s : State} (h : fitsI32 (s.rot_acc.toInt + p.toInt) = true) :
    execRotAccumulate p s = .next { s with
      rot_acc := BitVec.ofInt 32
        (s.rot_acc.toInt + p.toInt - PULSES_PER_DETENT * truncDiv (s.rot_acc.toInt + p.toInt) PULSES_PER_DETENT)
      ret_indents := BitVec.ofInt 32 (truncDiv (s.rot_acc.toInt + p.toInt) PULSES_PER_DETENT) } := by
  simp [execRotAccumulate, h]

/-- The accumulate step on a sum out of range (R173). -/
theorem execRotAccumulate_overflow {p : I32} {s : State} (h : fitsI32 (s.rot_acc.toInt + p.toInt) = false) :
    execRotAccumulate p s = .next { s.raise (.accOverflow s.rot_acc p) with ret_indents := 0 } := by
  simp [execRotAccumulate, h]

end Sys2Proof.Machine
end

