-- ==== Sys2Proof/Laws/Turns.lean ====
section
/-! SUPPORT. What a turn changes before the step it gives: one lemma per field. -/

namespace Sys2Proof.Machine

variable (s : State) (rest : List Turn)

@[simp] theorem State.sqTurn_cfg : (s.sqTurn rest).cfg = s.cfg := rfl
@[simp] theorem State.sqTurn_flags : (s.sqTurn rest).flags = s.flags := rfl
@[simp] theorem State.sqTurn_ctl_state : (s.sqTurn rest).ctl_state = s.ctl_state := rfl
@[simp] theorem State.sqTurn_ctl_phase : (s.sqTurn rest).ctl_phase = s.ctl_phase := rfl
@[simp] theorem State.sqTurn_setup_latch : (s.sqTurn rest).setup_latch = s.setup_latch := rfl
@[simp] theorem State.sqTurn_req : (s.sqTurn rest).req = s.req := rfl
@[simp] theorem State.sqTurn_reply_src : (s.sqTurn rest).reply_src = s.reply_src := rfl
@[simp] theorem State.sqTurn_reply_len : (s.sqTurn rest).reply_len = s.reply_len := rfl
@[simp] theorem State.sqTurn_reply_off : (s.sqTurn rest).reply_off = s.reply_off := rfl
@[simp] theorem State.sqTurn_zlp_pending : (s.sqTurn rest).zlp_pending = s.zlp_pending := rfl
@[simp] theorem State.sqTurn_ep0_buf : (s.sqTurn rest).ep0_buf = s.ep0_buf := rfl
@[simp] theorem State.sqTurn_ep0_len : (s.sqTurn rest).ep0_len = s.ep0_len := rfl
@[simp] theorem State.sqTurn_configured : (s.sqTurn rest).configured = s.configured := rfl
@[simp] theorem State.sqTurn_out_armed : (s.sqTurn rest).out_armed = s.out_armed := rfl
@[simp] theorem State.sqTurn_link_started : (s.sqTurn rest).link_started = s.link_started := rfl
@[simp] theorem State.sqTurn_bus_busy : (s.sqTurn rest).bus_busy = s.bus_busy := rfl
@[simp] theorem State.sqTurn_bus_txbuf : (s.sqTurn rest).bus_txbuf = s.bus_txbuf := rfl
@[simp] theorem State.sqTurn_bus_rxbuf : (s.sqTurn rest).bus_rxbuf = s.bus_rxbuf := rfl
@[simp] theorem State.sqTurn_bus_result : (s.sqTurn rest).bus_result = s.bus_result := rfl
@[simp] theorem State.sqTurn_rot_cnt : (s.sqTurn rest).rot_cnt = s.rot_cnt := rfl
@[simp] theorem State.sqTurn_rot_acc : (s.sqTurn rest).rot_acc = s.rot_acc := rfl
@[simp] theorem State.sqTurn_epin_buf : (s.sqTurn rest).epin_buf = s.epin_buf := rfl
@[simp] theorem State.sqTurn_epout_buf : (s.sqTurn rest).epout_buf = s.epout_buf := rfl
@[simp] theorem State.sqTurn_fault_led : (s.sqTurn rest).fault_led = s.fault_led := rfl
@[simp] theorem State.sqTurn_fault_log : (s.sqTurn rest).fault_log = s.fault_log := rfl
@[simp] theorem State.sqTurn_seq_state : (s.sqTurn rest).seq_state = s.seq_state := rfl
@[simp] theorem State.sqTurn_refused : (s.sqTurn rest).refused = s.refused := rfl
@[simp] theorem State.sqTurn_periph_prev : (s.sqTurn rest).periph_prev = s.periph_prev := rfl
@[simp] theorem State.sqTurn_agent : (s.sqTurn rest).agent = .sq := rfl
@[simp] theorem State.sqTurn_cmd : (s.sqTurn rest).cmd = s.cmd := rfl
@[simp] theorem State.sqTurn_rot_step : (s.sqTurn rest).rot_step = s.rot_step := rfl
@[simp] theorem State.sqTurn_ret_flag : (s.sqTurn rest).ret_flag = s.ret_flag := rfl
@[simp] theorem State.sqTurn_ret_sample : (s.sqTurn rest).ret_sample = s.ret_sample := rfl
@[simp] theorem State.sqTurn_ret_indents : (s.sqTurn rest).ret_indents = s.ret_indents := rfl
@[simp] theorem State.sqTurn_ret_word : (s.sqTurn rest).ret_word = s.ret_word := rfl
@[simp] theorem State.sqTurn_hook_sent : (s.sqTurn rest).hook_sent = s.hook_sent := rfl
@[simp] theorem State.sqTurn_hook_armed : (s.sqTurn rest).hook_armed = s.hook_armed := rfl
@[simp] theorem State.sqTurn_draws : (s.sqTurn rest).draws = s.draws := rfl
@[simp] theorem State.sqTurn_ep0_owed : (s.sqTurn rest).ep0_owed = s.ep0_owed := rfl
@[simp] theorem State.sqTurn_epin_owed : (s.sqTurn rest).epin_owed = s.epin_owed := rfl
@[simp] theorem State.sqTurn_rot_phase : (s.sqTurn rest).rot_phase = s.rot_phase := rfl
@[simp] theorem State.sqTurn_schedule : (s.sqTurn rest).schedule = rest := rfl
@[simp] theorem State.sqTurn_oracle : (s.sqTurn rest).oracle = s.oracle := rfl
@[simp] theorem State.sqTurn_emitted : (s.sqTurn rest).emitted = [] := rfl
@[simp] theorem State.sqTurn_wave : (s.sqTurn rest).wave = [] := rfl
@[simp] theorem State.sqTurn_flag (g : Flag) : (s.sqTurn rest).flag g = s.flag g := rfl

@[simp] theorem State.envTurn_cfg : (s.envTurn rest).cfg = s.cfg := rfl
@[simp] theorem State.envTurn_flags : (s.envTurn rest).flags = s.flags := rfl
@[simp] theorem State.envTurn_ctl_state : (s.envTurn rest).ctl_state = s.ctl_state := rfl
@[simp] theorem State.envTurn_ctl_phase : (s.envTurn rest).ctl_phase = s.ctl_phase := rfl
@[simp] theorem State.envTurn_setup_latch : (s.envTurn rest).setup_latch = s.setup_latch := rfl
@[simp] theorem State.envTurn_req : (s.envTurn rest).req = s.req := rfl
@[simp] theorem State.envTurn_reply_src : (s.envTurn rest).reply_src = s.reply_src := rfl
@[simp] theorem State.envTurn_reply_len : (s.envTurn rest).reply_len = s.reply_len := rfl
@[simp] theorem State.envTurn_reply_off : (s.envTurn rest).reply_off = s.reply_off := rfl
@[simp] theorem State.envTurn_zlp_pending : (s.envTurn rest).zlp_pending = s.zlp_pending := rfl
@[simp] theorem State.envTurn_ep0_buf : (s.envTurn rest).ep0_buf = s.ep0_buf := rfl
@[simp] theorem State.envTurn_ep0_len : (s.envTurn rest).ep0_len = s.ep0_len := rfl
@[simp] theorem State.envTurn_configured : (s.envTurn rest).configured = s.configured := rfl
@[simp] theorem State.envTurn_out_armed : (s.envTurn rest).out_armed = s.out_armed := rfl
@[simp] theorem State.envTurn_link_started : (s.envTurn rest).link_started = s.link_started := rfl
@[simp] theorem State.envTurn_bus_busy : (s.envTurn rest).bus_busy = s.bus_busy := rfl
@[simp] theorem State.envTurn_bus_txbuf : (s.envTurn rest).bus_txbuf = s.bus_txbuf := rfl
@[simp] theorem State.envTurn_bus_rxbuf : (s.envTurn rest).bus_rxbuf = s.bus_rxbuf := rfl
@[simp] theorem State.envTurn_bus_result : (s.envTurn rest).bus_result = s.bus_result := rfl
@[simp] theorem State.envTurn_rot_cnt : (s.envTurn rest).rot_cnt = s.rot_cnt := rfl
@[simp] theorem State.envTurn_rot_acc : (s.envTurn rest).rot_acc = s.rot_acc := rfl
@[simp] theorem State.envTurn_epin_buf : (s.envTurn rest).epin_buf = s.epin_buf := rfl
@[simp] theorem State.envTurn_epout_buf : (s.envTurn rest).epout_buf = s.epout_buf := rfl
@[simp] theorem State.envTurn_fault_led : (s.envTurn rest).fault_led = s.fault_led := rfl
@[simp] theorem State.envTurn_fault_log : (s.envTurn rest).fault_log = s.fault_log := rfl
@[simp] theorem State.envTurn_seq_state : (s.envTurn rest).seq_state = s.seq_state := rfl
@[simp] theorem State.envTurn_refused : (s.envTurn rest).refused = s.refused := rfl
@[simp] theorem State.envTurn_periph_prev : (s.envTurn rest).periph_prev = s.periph_prev := rfl
@[simp] theorem State.envTurn_agent : (s.envTurn rest).agent = .env := rfl
@[simp] theorem State.envTurn_cmd : (s.envTurn rest).cmd = s.cmd := rfl
@[simp] theorem State.envTurn_rot_step : (s.envTurn rest).rot_step = s.rot_step := rfl
@[simp] theorem State.envTurn_ret_flag : (s.envTurn rest).ret_flag = s.ret_flag := rfl
@[simp] theorem State.envTurn_ret_sample : (s.envTurn rest).ret_sample = s.ret_sample := rfl
@[simp] theorem State.envTurn_ret_indents : (s.envTurn rest).ret_indents = s.ret_indents := rfl
@[simp] theorem State.envTurn_ret_word : (s.envTurn rest).ret_word = s.ret_word := rfl
@[simp] theorem State.envTurn_hook_sent : (s.envTurn rest).hook_sent = s.hook_sent := rfl
@[simp] theorem State.envTurn_hook_armed : (s.envTurn rest).hook_armed = s.hook_armed := rfl
@[simp] theorem State.envTurn_draws : (s.envTurn rest).draws = s.draws := rfl
@[simp] theorem State.envTurn_ep0_owed : (s.envTurn rest).ep0_owed = s.ep0_owed := rfl
@[simp] theorem State.envTurn_epin_owed : (s.envTurn rest).epin_owed = s.epin_owed := rfl
@[simp] theorem State.envTurn_rot_phase : (s.envTurn rest).rot_phase = s.rot_phase := rfl
@[simp] theorem State.envTurn_schedule : (s.envTurn rest).schedule = rest := rfl
@[simp] theorem State.envTurn_oracle : (s.envTurn rest).oracle = s.oracle := rfl
@[simp] theorem State.envTurn_emitted : (s.envTurn rest).emitted = [] := rfl
@[simp] theorem State.envTurn_wave : (s.envTurn rest).wave = [] := rfl
@[simp] theorem State.envTurn_flag (g : Flag) : (s.envTurn rest).flag g = s.flag g := rfl

theorem State.passed_eq : { s.fresh with schedule := rest } = s.passed rest := rfl

@[simp] theorem State.passed_cfg : (s.passed rest).cfg = s.cfg := rfl
@[simp] theorem State.passed_flags : (s.passed rest).flags = s.flags := rfl
@[simp] theorem State.passed_ctl_state : (s.passed rest).ctl_state = s.ctl_state := rfl
@[simp] theorem State.passed_ctl_phase : (s.passed rest).ctl_phase = s.ctl_phase := rfl
@[simp] theorem State.passed_setup_latch : (s.passed rest).setup_latch = s.setup_latch := rfl
@[simp] theorem State.passed_req : (s.passed rest).req = s.req := rfl
@[simp] theorem State.passed_reply_src : (s.passed rest).reply_src = s.reply_src := rfl
@[simp] theorem State.passed_reply_len : (s.passed rest).reply_len = s.reply_len := rfl
@[simp] theorem State.passed_reply_off : (s.passed rest).reply_off = s.reply_off := rfl
@[simp] theorem State.passed_zlp_pending : (s.passed rest).zlp_pending = s.zlp_pending := rfl
@[simp] theorem State.passed_ep0_buf : (s.passed rest).ep0_buf = s.ep0_buf := rfl
@[simp] theorem State.passed_ep0_len : (s.passed rest).ep0_len = s.ep0_len := rfl
@[simp] theorem State.passed_configured : (s.passed rest).configured = s.configured := rfl
@[simp] theorem State.passed_out_armed : (s.passed rest).out_armed = s.out_armed := rfl
@[simp] theorem State.passed_link_started : (s.passed rest).link_started = s.link_started := rfl
@[simp] theorem State.passed_bus_busy : (s.passed rest).bus_busy = s.bus_busy := rfl
@[simp] theorem State.passed_bus_txbuf : (s.passed rest).bus_txbuf = s.bus_txbuf := rfl
@[simp] theorem State.passed_bus_rxbuf : (s.passed rest).bus_rxbuf = s.bus_rxbuf := rfl
@[simp] theorem State.passed_bus_result : (s.passed rest).bus_result = s.bus_result := rfl
@[simp] theorem State.passed_rot_cnt : (s.passed rest).rot_cnt = s.rot_cnt := rfl
@[simp] theorem State.passed_rot_acc : (s.passed rest).rot_acc = s.rot_acc := rfl
@[simp] theorem State.passed_epin_buf : (s.passed rest).epin_buf = s.epin_buf := rfl
@[simp] theorem State.passed_epout_buf : (s.passed rest).epout_buf = s.epout_buf := rfl
@[simp] theorem State.passed_fault_led : (s.passed rest).fault_led = s.fault_led := rfl
@[simp] theorem State.passed_fault_log : (s.passed rest).fault_log = s.fault_log := rfl
@[simp] theorem State.passed_seq_state : (s.passed rest).seq_state = s.seq_state := rfl
@[simp] theorem State.passed_refused : (s.passed rest).refused = s.refused := rfl
@[simp] theorem State.passed_periph_prev : (s.passed rest).periph_prev = s.periph_prev := rfl
@[simp] theorem State.passed_agent : (s.passed rest).agent = s.agent := rfl
@[simp] theorem State.passed_cmd : (s.passed rest).cmd = s.cmd := rfl
@[simp] theorem State.passed_rot_step : (s.passed rest).rot_step = s.rot_step := rfl
@[simp] theorem State.passed_ret_flag : (s.passed rest).ret_flag = s.ret_flag := rfl
@[simp] theorem State.passed_ret_sample : (s.passed rest).ret_sample = s.ret_sample := rfl
@[simp] theorem State.passed_ret_indents : (s.passed rest).ret_indents = s.ret_indents := rfl
@[simp] theorem State.passed_ret_word : (s.passed rest).ret_word = s.ret_word := rfl
@[simp] theorem State.passed_hook_sent : (s.passed rest).hook_sent = s.hook_sent := rfl
@[simp] theorem State.passed_hook_armed : (s.passed rest).hook_armed = s.hook_armed := rfl
@[simp] theorem State.passed_draws : (s.passed rest).draws = s.draws := rfl
@[simp] theorem State.passed_ep0_owed : (s.passed rest).ep0_owed = s.ep0_owed := rfl
@[simp] theorem State.passed_epin_owed : (s.passed rest).epin_owed = s.epin_owed := rfl
@[simp] theorem State.passed_rot_phase : (s.passed rest).rot_phase = s.rot_phase := rfl
@[simp] theorem State.passed_schedule : (s.passed rest).schedule = rest := rfl
@[simp] theorem State.passed_oracle : (s.passed rest).oracle = s.oracle := rfl
@[simp] theorem State.passed_emitted : (s.passed rest).emitted = [] := rfl
@[simp] theorem State.passed_wave : (s.passed rest).wave = [] := rfl
@[simp] theorem State.passed_flag (g : Flag) : (s.passed rest).flag g = s.flag g := rfl

/-! An event's data leave these alone (R49). -/

@[simp] theorem envData_cfg (e : EnvEvent) : (envData e s).cfg = s.cfg := by
  cases e <;> (try cases ‹Endpoint›) <;> rfl
@[simp] theorem envData_flags (e : EnvEvent) : (envData e s).flags = s.flags := by
  cases e <;> (try cases ‹Endpoint›) <;> rfl
@[simp] theorem envData_ctl_state (e : EnvEvent) : (envData e s).ctl_state = s.ctl_state := by
  cases e <;> (try cases ‹Endpoint›) <;> rfl
@[simp] theorem envData_ctl_phase (e : EnvEvent) : (envData e s).ctl_phase = s.ctl_phase := by
  cases e <;> (try cases ‹Endpoint›) <;> rfl
@[simp] theorem envData_req (e : EnvEvent) : (envData e s).req = s.req := by
  cases e <;> (try cases ‹Endpoint›) <;> rfl
@[simp] theorem envData_reply_src (e : EnvEvent) : (envData e s).reply_src = s.reply_src := by
  cases e <;> (try cases ‹Endpoint›) <;> rfl
@[simp] theorem envData_reply_len (e : EnvEvent) : (envData e s).reply_len = s.reply_len := by
  cases e <;> (try cases ‹Endpoint›) <;> rfl
@[simp] theorem envData_reply_off (e : EnvEvent) : (envData e s).reply_off = s.reply_off := by
  cases e <;> (try cases ‹Endpoint›) <;> rfl
@[simp] theorem envData_zlp_pending (e : EnvEvent) : (envData e s).zlp_pending = s.zlp_pending := by
  cases e <;> (try cases ‹Endpoint›) <;> rfl
@[simp] theorem envData_ep0_buf (e : EnvEvent) : (envData e s).ep0_buf = s.ep0_buf := by
  cases e <;> (try cases ‹Endpoint›) <;> rfl
@[simp] theorem envData_ep0_len (e : EnvEvent) : (envData e s).ep0_len = s.ep0_len := by
  cases e <;> (try cases ‹Endpoint›) <;> rfl
@[simp] theorem envData_configured (e : EnvEvent) : (envData e s).configured = s.configured := by
  cases e <;> (try cases ‹Endpoint›) <;> rfl
@[simp] theorem envData_link_started (e : EnvEvent) : (envData e s).link_started = s.link_started := by
  cases e <;> (try cases ‹Endpoint›) <;> rfl
@[simp] theorem envData_bus_txbuf (e : EnvEvent) : (envData e s).bus_txbuf = s.bus_txbuf := by
  cases e <;> (try cases ‹Endpoint›) <;> rfl
@[simp] theorem envData_bus_result (e : EnvEvent) : (envData e s).bus_result = s.bus_result := by
  cases e <;> (try cases ‹Endpoint›) <;> rfl
@[simp] theorem envData_rot_cnt (e : EnvEvent) : (envData e s).rot_cnt = s.rot_cnt := by
  cases e <;> (try cases ‹Endpoint›) <;> rfl
@[simp] theorem envData_rot_acc (e : EnvEvent) : (envData e s).rot_acc = s.rot_acc := by
  cases e <;> (try cases ‹Endpoint›) <;> rfl
@[simp] theorem envData_epin_buf (e : EnvEvent) : (envData e s).epin_buf = s.epin_buf := by
  cases e <;> (try cases ‹Endpoint›) <;> rfl
@[simp] theorem envData_fault_led (e : EnvEvent) : (envData e s).fault_led = s.fault_led := by
  cases e <;> (try cases ‹Endpoint›) <;> rfl
@[simp] theorem envData_fault_log (e : EnvEvent) : (envData e s).fault_log = s.fault_log := by
  cases e <;> (try cases ‹Endpoint›) <;> rfl
@[simp] theorem envData_seq_state (e : EnvEvent) : (envData e s).seq_state = s.seq_state := by
  cases e <;> (try cases ‹Endpoint›) <;> rfl
@[simp] theorem envData_refused (e : EnvEvent) : (envData e s).refused = s.refused := by
  cases e <;> (try cases ‹Endpoint›) <;> rfl
@[simp] theorem envData_agent (e : EnvEvent) : (envData e s).agent = s.agent := by
  cases e <;> (try cases ‹Endpoint›) <;> rfl
@[simp] theorem envData_cmd (e : EnvEvent) : (envData e s).cmd = s.cmd := by
  cases e <;> (try cases ‹Endpoint›) <;> rfl
@[simp] theorem envData_rot_step (e : EnvEvent) : (envData e s).rot_step = s.rot_step := by
  cases e <;> (try cases ‹Endpoint›) <;> rfl
@[simp] theorem envData_ret_flag (e : EnvEvent) : (envData e s).ret_flag = s.ret_flag := by
  cases e <;> (try cases ‹Endpoint›) <;> rfl
@[simp] theorem envData_ret_sample (e : EnvEvent) : (envData e s).ret_sample = s.ret_sample := by
  cases e <;> (try cases ‹Endpoint›) <;> rfl
@[simp] theorem envData_ret_indents (e : EnvEvent) : (envData e s).ret_indents = s.ret_indents := by
  cases e <;> (try cases ‹Endpoint›) <;> rfl
@[simp] theorem envData_ret_word (e : EnvEvent) : (envData e s).ret_word = s.ret_word := by
  cases e <;> (try cases ‹Endpoint›) <;> rfl
@[simp] theorem envData_hook_sent (e : EnvEvent) : (envData e s).hook_sent = s.hook_sent := by
  cases e <;> (try cases ‹Endpoint›) <;> rfl
@[simp] theorem envData_hook_armed (e : EnvEvent) : (envData e s).hook_armed = s.hook_armed := by
  cases e <;> (try cases ‹Endpoint›) <;> rfl
@[simp] theorem envData_draws (e : EnvEvent) : (envData e s).draws = s.draws := by
  cases e <;> (try cases ‹Endpoint›) <;> rfl
@[simp] theorem envData_schedule (e : EnvEvent) : (envData e s).schedule = s.schedule := by
  cases e <;> (try cases ‹Endpoint›) <;> rfl
@[simp] theorem envData_oracle (e : EnvEvent) : (envData e s).oracle = s.oracle := by
  cases e <;> (try cases ‹Endpoint›) <;> rfl
@[simp] theorem envData_emitted (e : EnvEvent) : (envData e s).emitted = s.emitted := by
  cases e <;> (try cases ‹Endpoint›) <;> rfl
@[simp] theorem envData_flag (e : EnvEvent) (g : Flag) : (envData e s).flag g = s.flag g := by
  cases e <;> (try cases ‹Endpoint›) <;> rfl

/-- When the abort step is open (R207). -/
theorem State.mayAbort_iff : s.mayAbort = true ↔
    s.cfg.SETUP_ABORTS = true ∧ s.flag .setup = true ∧ s.seq_state = .run .setup ∧ s.ctl_state = .dataIn ∧
      s.ctl_phase ≠ .stage := by
  simp [State.mayAbort, and_assoc]

/-- The hook SQ runs, by where SQ stands (R306). -/
theorem State.atHook_cases {s : State} {h : Hook} (hh : s.atHook = some h) :
    (∃ n, s.seq_state = .boot n ∧ h = .boot) ∨ (s.seq_state = .run .epOut ∧ h = .epOut) ∨
      (s.seq_state = .run .key ∧ h = .key) ∨ (s.seq_state = .run .rotary ∧ s.rot_step = .detent ∧ h = .detent) := by
  unfold State.atHook at hh
  split at hh <;> simp_all

/-! ### The oracle's list at a reset (R340) -/

/-- A hook's sequence that is all in the list is dropped whole. -/
theorem answersAfterHook_done (cs : List HookCmd) (later : List HookStep) :
    answersAfterHook (cs.map .cmd ++ .done :: later) = later := by
  induction cs with
  | nil => rfl
  | cons c cs ih => exact ih

/-- A list without an end of the hook is dropped whole. -/
theorem answersAfterHook_open (cs : List HookCmd) : answersAfterHook (cs.map .cmd) = [] := by
  induction cs with
  | nil => rfl
  | cons c cs ih => exact ih

theorem State.oracleAfterReset_of_hook {s : State} {h : Hook} (hh : s.atHook = some h) :
    s.oracleAfterReset = answersAfterHook s.oracle := by
  rw [State.oracleAfterReset, hh]

theorem State.oracleAfterReset_of_none {s : State} (hh : s.atHook = none) : s.oracleAfterReset = s.oracle := by
  rw [State.oracleAfterReset, hh]

end Sys2Proof.Machine
end

