-- ==== Sys2Proof/Laws/Step.lean ====
section
/-! SUPPORT. What a step can do: whose turn it is, and for SQ which of its steps it takes. -/

namespace Sys2Proof.Machine

/-! ### Where SQ stands -/

theorem sqMain_boot {s : State} {n : Nat} (h : s.seq_state = .boot n) : sqMain s = bootStep n s := by
  rw [sqMain, h]

theorem sqMain_poll {s : State} {k : Service} (h : s.seq_state = .poll k) : sqMain s = some (pollStep k s) := by
  rw [sqMain, h]

theorem sqMain_run {s : State} {k : Service} (h : s.seq_state = .run k) : sqMain s = runStep k s := by
  rw [sqMain, h]

/-- In the data stage, service 2's step is the one of its phase (R213 to R216). -/
theorem sqMain_dataIn {s : State} (hq : s.seq_state = .run .setup) (hc : s.ctl_state = .dataIn) :
    sqMain s = dataStep s := by
  rw [sqMain_run hq, runStep, ctlStep, hc]

theorem dataStep_stage {s : State} (hp : s.ctl_phase = .stage) : dataStep s = some (stageStep s) := by
  rw [dataStep, hp]

theorem dataStep_waitStarted {s : State} (hp : s.ctl_phase = .waitStarted) :
    dataStep s = waitFlag .ep0Started s fun t => { t with ctl_phase := .waitEnded } := by
  rw [dataStep, hp]

theorem dataStep_waitEnded {s : State} (hp : s.ctl_phase = .waitEnded) :
    dataStep s = waitFlag .ep0Ended s fun t => { t with ctl_phase := .waitDataDone } := by
  rw [dataStep, hp]

theorem dataStep_waitDataDone {s : State} (hp : s.ctl_phase = .waitDataDone) :
    dataStep s = waitFlag .ep0DataDone s State.packetDone := by
  rw [dataStep, hp]

/-- In a hook, SQ's step is a step of the hook (R306), which in boot may also move the counter of commands (R342). -/
theorem sqMain_atHook {s : State} {h : Hook} (hh : s.atHook = some h) :
    (∃ n, s.seq_state = .boot n ∧ h = .boot ∧ sqMain s = bootStep n s) ∨ (h ≠ .boot ∧ sqMain s = hookStep h s) := by
  rcases State.atHook_cases hh with ⟨n, hq, rfl⟩ | ⟨hq, rfl⟩ | ⟨hq, rfl⟩ | ⟨hq, hr, rfl⟩
  · exact .inl ⟨n, hq, rfl, sqMain_boot hq⟩
  · exact .inr ⟨by simp, sqMain_run hq⟩
  · exact .inr ⟨by simp, sqMain_run hq⟩
  · refine .inr ⟨by simp, ?_⟩
    rw [sqMain_run hq, runStep, rotaryStep, hr]

/-! ### Whose step it is -/

theorem sqStep_of_sqMain {s : State} {o : Result} (h : sqMain { s with agent := .sq } = some o) :
    sqStep false s = some o := by
  simp [sqStep, h]

theorem State.passed_attempt_of_none {s : State} {rest : List Turn} (o : Result) (h : s.refused = none) :
    (s.passed rest).attempt o = (s.passed rest).settle o := State.attempt_of_none o (s := s.passed rest) h

theorem State.passed_attempt_of_some {s : State} {rest : List Turn} {r : Refusal} (o : Result) (h : s.refused = some r) :
    (s.passed rest).attempt o = (s.passed rest).refuse r := State.attempt_of_some o (s := s.passed rest) h

/-- A step with a turn to come is that turn (R7). -/
theorem step_cons {s : State} {t : Turn} {rest : List Turn} (h : s.schedule = t :: rest) :
    step s = turnStep t (s.passed rest) := by
  unfold step
  rw [h]
  rfl

/-- A step with no turn to come is SQ's, where it has one. -/
theorem step_nil {s : State} (h : s.schedule = []) :
    step s = (s.passed []).attempt ((sqStep false (s.passed [])).getD (blocked (s.passed []))) := by
  have e : s.fresh = s.passed [] := by simp [State.fresh, State.passed, h]
  unfold step
  rw [h, e]

/-- A step that SQ makes is the step of SQ where it stands. -/
theorem step_of_sqMain {s : State} {rest : List Turn} {o : Result} (h : s.sqMoves rest)
    (hm : sqMain (s.sqTurn rest) = some o) : step s = (s.passed rest).settle o := by
  have hq : sqStep false (s.passed rest) = some o := sqStep_of_sqMain hm
  obtain ⟨hr, h | ⟨h, rfl⟩⟩ := h
  · rw [step_cons h, turnStep, hq, Option.getD_some, State.passed_attempt_of_none _ hr]
  · rw [step_nil h, hq, Option.getD_some, State.passed_attempt_of_none _ hr]

/-- The same for a step with a next state. -/
theorem step_of_sqMain_next {s t : State} {rest : List Turn} (h : s.sqMoves rest)
    (hm : sqMain (s.sqTurn rest) = some (.next t)) : step s = .next t := by
  rw [step_of_sqMain h hm, State.settle_next]

/-- A turn that passes while SQ is held. -/
theorem step_held {s : State} {a : Bool} {rest : List Turn} (hr : s.refused = none) (h : s.schedule = .sq a :: rest)
    (hq : sqStep a (s.passed rest) = none) : step s = .next (s.passed rest) := by
  rw [step_cons h, turnStep, hq, Option.getD_none, State.passed_attempt_of_none _ hr, State.settle_next]

/-- SQ's step, in terms of the state it finds. -/
theorem sqStep_passed (a : Bool) (s : State) (rest : List Turn) :
    sqStep a (s.passed rest) =
      (if a && (s.sqTurn rest).mayAbort then some (abortStep (s.sqTurn rest))
      else
        match sqMain (s.sqTurn rest) with
        | some o => some o
        | none => if (s.sqTurn rest).mayAbort then some (abortStep (s.sqTurn rest)) else none) := rfl

/-- SQ is held: it has no step where it stands, and the abort step is not open (R123). -/
theorem sqStep_held {a : Bool} {s : State} {rest : List Turn} (hm : sqMain (s.sqTurn rest) = none)
    (ha : (s.sqTurn rest).mayAbort = false) : sqStep a (s.passed rest) = none := by
  rw [sqStep_passed, ha, hm]
  cases a <;> rfl

/-- A step of the environment (R7). -/
theorem step_env {s : State} {e : EnvEvent} {rest : List Turn} (h : s.envMoves e rest) :
    step s = (s.passed rest).settle (envStep e (s.passed rest)) := by
  rw [step_cons h.2, turnStep, State.passed_attempt_of_none _ h.1]

/-- A turn of a refused state that is no reset (R301). -/
theorem step_refused {s : State} {tn : Turn} {rest : List Turn} {r : Refusal} (hr : s.refused = some r)
    (h : s.schedule = tn :: rest) (ht : tn.isReset = false) : step s = (s.passed rest).refuse r := by
  rw [step_cons h]
  cases tn with
  | reset u chip => cases ht
  | _ => rw [turnStep, State.passed_attempt_of_some _ hr]

/-- SQ's step is the abort step where that is open, or the step where it stands (R207). -/
theorem sqStep_cases {a : Bool} {s : State} {o : Result} (h : sqStep a s = some o) :
    (State.mayAbort { s with agent := .sq } = true ∧ o = abortStep { s with agent := .sq }) ∨
      sqMain { s with agent := .sq } = some o := by
  unfold sqStep at h
  simp only at h
  split at h
  · next hc => exact .inl ⟨by simpa using (Bool.and_eq_true _ _ ▸ hc : _ ∧ _).2, (Option.some.inj h).symm⟩
  · split at h
    · next hm => exact .inr (by rw [hm, h])
    · split at h
      · next hc => exact .inl ⟨hc, (Option.some.inj h).symm⟩
      · cases h

/-- The reason for which a step leaves the state refused: the state was refused already, or the step itself was refused
(R11, R301). -/
def State.refusedBy (s : State) (rest : List Turn) (r : Refusal) : Prop :=
  s.refused = some r ∨
    (s.refused = none ∧ r.outcomeClass = some .refuse ∧
      ((∃ e, s.schedule = .env e :: rest ∧ envStep e (s.passed rest) = .refused r) ∨
        (∃ a, s.schedule = .sq a :: rest ∧ sqStep a (s.passed rest) = some (.refused r))))

/-- The five things a step with a next state can be: a reset, an event of the environment, a step of SQ, a turn that passes
while SQ is held or sleeps, or a turn of a refused state that waits for its reset. -/
theorem step_cases {s t : State} (h : step s = .next t) :
    (∃ u chip rest, s.schedule = .reset u chip :: rest ∧ t = (s.passed rest).hardReset u chip) ∨
    (∃ e rest, s.envMoves e rest ∧ envStep e (s.passed rest) = .next t) ∨
    (∃ a rest, s.refused = none ∧ ((s.schedule = .sq a :: rest) ∨ (a = false ∧ s.schedule = [] ∧ rest = [])) ∧
      sqStep a (s.passed rest) = some (.next t)) ∨
    (∃ rest, s.refused = none ∧ ((∃ a, s.schedule = .sq a :: rest) ∨ (s.schedule = [] ∧ rest = [])) ∧
      t = s.passed rest) ∨
    (∃ tn rest r, s.schedule = tn :: rest ∧ tn.isReset = false ∧ rest.any Turn.isReset = true ∧ s.refusedBy rest r ∧
      t = { s.passed rest with refused := some r }) := by
  cases hs : s.schedule with
  | cons tn rest =>
    cases hr : s.refused with
    | some r =>
      cases ht : tn.isReset with
      | true =>
        cases tn with
        | reset u chip =>
          rw [step_cons hs] at h
          exact .inl ⟨u, chip, rest, rfl, (Host.Outcome.next.inj h).symm⟩
        | _ => cases ht
      | false =>
        rw [step_refused hr hs ht] at h
        obtain ⟨ha, rfl⟩ := State.refuse_cases h
        exact .inr (.inr (.inr (.inr ⟨tn, rest, r, rfl, ht, ha, .inl hr, rfl⟩)))
    | none =>
      cases tn with
      | reset u chip =>
        rw [step_cons hs] at h
        exact .inl ⟨u, chip, rest, rfl, (Host.Outcome.next.inj h).symm⟩
      | env e =>
        rw [step_env ⟨hr, hs⟩] at h
        rcases State.settle_cases h with he | ⟨r, he, hc, ha, rfl⟩
        · exact .inr (.inl ⟨e, rest, ⟨hr, hs⟩, he⟩)
        · exact .inr (.inr (.inr (.inr ⟨_, rest, r, rfl, rfl, ha, .inr ⟨hr, hc, .inl ⟨e, hs, he⟩⟩, rfl⟩)))
      | sq a =>
        rw [step_cons hs, turnStep, State.passed_attempt_of_none _ hr] at h
        cases hq : sqStep a (s.passed rest) with
        | some o =>
          rw [hq] at h
          rcases State.settle_cases h with he | ⟨r, he, hc, ha, rfl⟩
          · exact .inr (.inr (.inl ⟨a, rest, rfl, .inl rfl, by rw [hq]; exact congrArg some he⟩))
          · refine .inr (.inr (.inr (.inr ⟨_, rest, r, rfl, rfl, ha, .inr ⟨hr, hc, .inr ⟨a, hs, ?_⟩⟩, rfl⟩)))
            rw [hq]
            exact congrArg some he
        | none =>
          rw [hq] at h
          exact .inr (.inr (.inr (.inl ⟨rest, rfl, .inl ⟨a, rfl⟩, (Host.Outcome.next.inj h).symm⟩)))
  | nil =>
    rw [step_nil hs] at h
    cases hr : s.refused with
    | some r =>
      rw [State.passed_attempt_of_some _ hr] at h
      cases (State.refuse_cases h).1
    | none =>
      rw [State.passed_attempt_of_none _ hr] at h
      rcases State.settle_cases h with he | ⟨r, -, -, ha, -⟩
      · cases hq : sqStep false (s.passed []) with
        | some o =>
          rw [hq] at he
          exact .inr (.inr (.inl ⟨false, [], rfl, .inr ⟨rfl, rfl, rfl⟩, by rw [hq]; exact congrArg some he⟩))
        | none =>
          rw [hq] at he
          refine .inr (.inr (.inr (.inl ⟨[], rfl, .inr ⟨rfl, rfl⟩, ?_⟩)))
          unfold blocked at he
          simp only [Option.getD_none] at he
          split at he
          · cases he
          · exact (Host.Outcome.next.inj he).symm
      · cases ha

/-- A step that does not shun SQ (`sqMoves`) is one of SQ's own, or SQ is held (R123, R304), or SQ's step is refused and
the state waits for its reset (R301). -/
theorem step_sqMoves {s t : State} {rest : List Turn} (h : s.sqMoves rest) (hs : step s = .next t) :
    sqStep false (s.passed rest) = some (.next t) ∨ t = s.passed rest ∨
      (∃ r, sqStep false (s.passed rest) = some (.refused r) ∧ t = { s.passed rest with refused := some r }) := by
  obtain ⟨hr, h⟩ := h
  rcases step_cases hs with ⟨u, c, r, h1, -⟩ | ⟨u, r, h1, -⟩ | ⟨a, r, -, h1, h2⟩ | ⟨r, -, h1, rfl⟩ |
    ⟨tn, r, x, h1, -, -, h2, rfl⟩
  · rcases h with h | h <;> simp_all
  · rcases h with h | h <;> simp_all [State.envMoves]
  · obtain ⟨rfl, rfl⟩ : a = false ∧ r = rest := by rcases h with h | h <;> rcases h1 with h1 | h1 <;> simp_all
    exact .inl h2
  · obtain rfl : r = rest := by rcases h with h | h <;> rcases h1 with h1 | h1 <;> simp_all
    exact .inr (.inl rfl)
  · rcases h2 with h2 | ⟨-, -, ⟨e, h2, -⟩ | ⟨a, h2, h3⟩⟩
    · cases hr.symm.trans h2
    · rcases h with h | ⟨h, -⟩ <;> cases h2.symm.trans h
    · obtain ⟨rfl, rfl⟩ : a = false ∧ r = rest := by
        rcases h with h | ⟨h, -⟩ <;> cases h2.symm.trans h
        exact ⟨rfl, rfl⟩
      exact .inr (.inr ⟨x, h3, rfl⟩)

end Sys2Proof.Machine
end

