-- ==== Sys2Proof/Laws/Moves.lean ====
section
/-! SUPPORT. Everything SQ can do in one step, said once: each rule's step as one constructor with its guard and its next
state. Statements about every step are case analyses of these. -/

namespace Sys2Proof.Machine

/-! ### Requests -/

/-- What performing a request of the map can do to the state (R220 to R224, R252 to R259). -/
inductive RequestMove (s : State) : State → Prop
  | acknowledged : RequestMove s { s with ctl_state := .status }
  | configured : RequestMove s { s with
      emitted := s.emitted ++ [.epEnable, .epOutArm]
      configured := true, out_armed := true, ctl_state := .status }
  | stalled (c : LogEntry) (h : c.isStall = true) : RequestMove s (s.stall c)
  | replied (id : DescId) (l : Half) : RequestMove s (replyFrom id l s)

theorem serveIndexZero_move {ty n : Byte} {id : DescId} {l : Half} {s t : State}
    (h : serveIndexZero ty id n l s = .next t) : RequestMove s t := by
  unfold serveIndexZero at h
  split at h
  · obtain rfl : replyFrom id l s = t := by simpa using h
    exact .replied id l
  · obtain rfl : s.stall _ = t := by simpa using h
    exact .stalled _ rfl

/-- A request has a next state, and it is one of these. -/
theorem exec_request_move {r : Request} {s t : State} (h : exec (decodeRequest r) s = .next t) : RequestMove s t := by
  unfold decodeRequest at h
  cases hr : r.row <;> rw [hr] at h <;> simp only [Request.toInstr, exec] at h
  case setAddress => obtain rfl : _ = t := by simpa [execSetAddress, acknowledge] using h
                     exact .acknowledged
  case clearFeature => obtain rfl : _ = t := by simpa [execClearFeature, acknowledge] using h
                       exact .acknowledged
  case setIdle => obtain rfl : _ = t := by simpa [execSetIdle, acknowledge] using h
                  exact .acknowledged
  case setConfiguration =>
    unfold execSetConfiguration at h
    split at h
    · obtain rfl : _ = t := by simpa [State.emit] using h
      exact .configured
    · obtain rfl : s.stall _ = t := by simpa using h
      exact .stalled _ rfl
  case getDescriptorDevice => exact serveIndexZero_move h
  case getDescriptorConfiguration => exact serveIndexZero_move h
  case getDescriptorReport => exact serveIndexZero_move h
  case getDescriptorString =>
    unfold execGetDescriptorString at h
    split at h
    · obtain rfl : replyFrom _ _ s = t := by simpa using h
      exact .replied ..
    split at h
    · obtain rfl : replyFrom _ _ s = t := by simpa using h
      exact .replied ..
    split at h
    · obtain rfl : replyFrom _ _ s = t := by simpa using h
      exact .replied ..
    · obtain rfl : s.stall _ = t := by simpa using h
      exact .stalled _ rfl
  case getDescriptorDeviceQualifier =>
    obtain rfl : s.stall _ = t := by simpa [execGetDescriptorDeviceQualifier] using h
    exact .stalled _ rfl
  case getDescriptorOther =>
    obtain rfl : s.stall _ = t := by simpa [execGetDescriptorOther] using h
    exact .stalled _ rfl
  case unmatched =>
    obtain rfl : s.stall _ = t := by simpa [execUnmatched] using h
    exact .stalled _ rfl

/-- A request is never refused and never a fault. -/
theorem exec_request_next (r : Request) (s : State) : ∃ t, exec (decodeRequest r) s = .next t := by
  unfold decodeRequest
  cases r.row <;> simp only [Request.toInstr, exec]
  case getDescriptorString =>
    unfold execGetDescriptorString
    split
    · exact ⟨_, rfl⟩
    split
    · exact ⟨_, rfl⟩
    split <;> exact ⟨_, rfl⟩
  case setConfiguration => unfold execSetConfiguration; split <;> exact ⟨_, rfl⟩
  case getDescriptorDevice => unfold execGetDescriptorDevice serveIndexZero; split <;> exact ⟨_, rfl⟩
  case getDescriptorConfiguration => unfold execGetDescriptorConfiguration serveIndexZero; split <;> exact ⟨_, rfl⟩
  case getDescriptorReport => unfold execGetDescriptorReport serveIndexZero; split <;> exact ⟨_, rfl⟩
  all_goals exact ⟨_, rfl⟩

/-! ### Hooks -/

/-- A start of a transaction by SQ, busy or not (R144, R145). -/
inductive XferMove (after : AfterXfer) (s : State) : State → Prop
  | busy (w : Half) (d : Nat) (h : s.bus_busy = true) : XferMove after s { s with
      fault_log := s.fault_log ++ [.busBusy w], ret_word := Config.freeWord d, cmd := after.pos, draws := d + 1 }
  | started (w : Half) (h : s.bus_busy = false) (hk : knowsAddr s.cfg (busAddr w) = true) : XferMove after s { s with
      flags := s.flags.put .busDone false
      bus_txbuf := busBytes w, bus_busy := true, cmd := .busWait after
      emitted := s.emitted ++ [.busStart (busBytes w)] }

theorem startXfer_move {after : AfterXfer} {w : Half} {s t : State} (h : startXfer after w s = .next t) :
    XferMove after s t := by
  rcases startXfer_cases h with ⟨hb, rfl⟩ | ⟨hb, -, hk, rfl⟩
  · exact .busy w s.draws hb
  · exact .started w hb hk

/-- `s` with the oracle's next answer taken. -/
def State.asked (s : State) (o : List HookStep) (d : Nat) : State := { s with oracle := o, draws := d }

/-- Everything one step of a running hook can do (R50, R306). -/
inductive HookMove (h : Hook) (s : State) : State → Prop
  | done (o : List HookStep) (d : Nat) (hc : s.cmd = .idle) (hm : hookMay h .done s = true) :
      HookMove h s { s.asked o d with seq_state := h.after }
  | xfer (o : List HookStep) (d : Nat) (after : AfterXfer) (t : State) (hc : s.cmd = .idle)
      (hx : XferMove after (s.asked o d) t) : HookMove h s t
  | collect (t : State) (hc : s.cmd = .collect) (hx : XferMove .caller s t) : HookMove h s t
  | sendIn (o : List HookStep) (d : Nat) (r : Vector Byte 5) (hl : 0 + r.toList.length ≤ 5) (hc : s.cmd = .idle)
      (hm : hookMay h (.cmd (.sendIn r)) s = true) : HookMove h s { s.asked o d with
        hook_sent := true
        epin_buf := splice s.epin_buf 0 r.toList hl
        flags := (s.flags.put .epInStarted false).put .epInEnded false
        cmd := .inStarted
        epin_owed := s.epin_owed ++ [.started]
        emitted := s.emitted ++ [.epInStart .epIn r.toList] }
  | armOut (o : List HookStep) (d : Nat) (hc : s.cmd = .idle) (hm : hookMay h (.cmd .armOut) s = true) :
      HookMove h s { s.asked o d with
        hook_armed := true, out_armed := true, emitted := s.emitted ++ [.epOutArm] }
  | busDone (after : AfterXfer) (hc : s.cmd = .busWait after) (hf : s.flag .busDone = true) : HookMove h s { s with
        flags := s.flags.put .busDone false
        bus_result := wordOfBus s.bus_rxbuf, ret_word := wordOfBus s.bus_rxbuf, cmd := after.pos }
  | inStarted (hc : s.cmd = .inStarted) (hf : s.flag .epInStarted = true) : HookMove h s { s with
        flags := s.flags.put .epInStarted false, cmd := .inEnded }
  | inEnded (hc : s.cmd = .inEnded) (hf : s.flag .epInEnded = true) : HookMove h s { s with
        flags := s.flags.put .epInEnded false, cmd := .idle }

theorem nextHookStep_asked (h : Hook) (s : State) : ∃ o d, (nextHookStep h s).2 = s.asked o d := by
  unfold nextHookStep
  split
  · next a rest ho => exact ⟨rest, s.draws, rfl⟩
  · next ho => exact ⟨s.oracle, s.draws + 1, rfl⟩

theorem hookStep_move {h : Hook} {s t : State} (hs : hookStep h s = some (.next t)) : HookMove h s t := by
  unfold hookStep at hs
  split at hs
  · next hc =>
    have hs := Option.some.inj hs
    unfold hookFetch at hs
    split at hs
    · next hm =>
      obtain ⟨o, d, hn⟩ := nextHookStep_asked h s
      rw [hn] at hs
      split at hs
      · next c hcmd =>
        rw [hcmd] at hm
        cases c with
        | xfer w => exact .xfer o d .caller t hc (startXfer_move hs)
        | message w =>
          simp only [HookCmd.instr, State.noteCmd, decodeBusWord] at hs
          split at hs
          · exact .xfer o d .collect t hc (startXfer_move hs)
          · exact .xfer o d .caller t hc (startXfer_move hs)
        | sendIn r =>
          obtain ⟨hl, -, rfl⟩ := startEpIn_cases (show startEpIn r.toList _ = _ from hs)
          exact .sendIn o d r hl hc hm
        | armOut =>
          obtain rfl : _ = t := by simpa [HookCmd.instr, exec, execArmOut, State.emit, State.noteCmd] using hs
          exact .armOut o d hc hm
      · next hdone =>
        rw [hdone] at hm
        obtain rfl : _ = t := by simpa using hs
        exact .done o d hc hm
    · cases hs
  · next hc => exact .collect t hc (startXfer_move (Option.some.inj hs))
  · next after hc =>
    obtain ⟨hf, ho⟩ := waitFlag_eq_some hs
    obtain rfl : t = _ := by simpa using ho
    exact .busDone after hc hf
  · next hc =>
    obtain ⟨hf, ho⟩ := waitFlag_eq_some hs
    obtain rfl : t = _ := by simpa using ho
    exact .inStarted hc hf
  · next hc =>
    obtain ⟨hf, ho⟩ := waitFlag_eq_some hs
    obtain rfl : t = _ := by simpa using ho
    exact .inEnded hc hf

/-! ### SQ -/

/-- Everything one step of SQ can do. -/
inductive SqMove (s : State) : State → Prop
  | boot (n : Nat) (t : State) (hq : s.seq_state = .boot n) (hm : HookMove .boot s t) : SqMove s (t.bootAdvance n)
  | wake (hq : s.seq_state = .sleep) (hw : s.woken = true) : SqMove s { s with seq_state := .poll .usbPower }
  | pollHit (k : Service) (hq : s.seq_state = .poll k) (hf : s.flag k.flag = true) : SqMove s { s with
      flags := s.flags.put k.flag false, ret_flag := true, seq_state := .run k, rot_step := .sample
      hook_sent := false, hook_armed := false }
  | pollMiss (k : Service) (hq : s.seq_state = .poll k) (hf : s.flag k.flag = false) : SqMove s { s with
      flags := s.flags.put k.flag false, ret_flag := false, seq_state := k.after }
  | link (hq : s.seq_state = .run .usbPower) : SqMove s { s with
      emitted := s.emitted ++ [.usbLinkStart], link_started := true, seq_state := .poll .setup }
  | decode (hq : s.seq_state = .run .setup) (hc : s.ctl_state = .idle ∨ s.ctl_state = .stalled) :
      SqMove s s.decodeLatch
  | dispatch (t : State) (hq : s.seq_state = .run .setup) (hc : s.ctl_state = .setupDecoded)
      (he : exec (decodeRequest s.req) s = .next t) : SqMove s t.serviceReturn
  | stage (id : DescId) (bytes : List Byte) (hl : 0 + bytes.length ≤ 64) (hq : s.seq_state = .run .setup)
      (hc : s.ctl_state = .dataIn) (hp : s.ctl_phase = .stage) (hi : s.reply_src = some id)
      (hr : memRead (.descRom id) s.reply_off.toNat (packetSize s.reply_len s.reply_off) s = some bytes) :
      SqMove s { s with
        ep0_buf := splice s.ep0_buf 0 bytes hl
        flags := ((s.flags.put .ep0Started false).put .ep0Ended false).put .ep0DataDone false
        ep0_len := BitVec.ofNat 7 bytes.length
        ctl_phase := .waitStarted
        ep0_owed := s.ep0_owed ++ [.started]
        emitted := s.emitted ++ [.epInStart .ep0 bytes] }
  | started (hq : s.seq_state = .run .setup) (hc : s.ctl_state = .dataIn) (hp : s.ctl_phase = .waitStarted)
      (hf : s.flag .ep0Started = true) :
      SqMove s { s with flags := s.flags.put .ep0Started false, ctl_phase := .waitEnded }
  | ended (hq : s.seq_state = .run .setup) (hc : s.ctl_state = .dataIn) (hp : s.ctl_phase = .waitEnded)
      (hf : s.flag .ep0Ended = true) :
      SqMove s { s with flags := s.flags.put .ep0Ended false, ctl_phase := .waitDataDone }
  | dataDone (hq : s.seq_state = .run .setup) (hc : s.ctl_state = .dataIn) (hp : s.ctl_phase = .waitDataDone)
      (hf : s.flag .ep0DataDone = true) : SqMove s (s.clearFlag .ep0DataDone).packetDone
  | status (hq : s.seq_state = .run .setup) (hc : s.ctl_state = .status) : SqMove s { s with
      emitted := s.emitted ++ [.ep0Status], ctl_state := .idle, seq_state := .poll .epOut }
  | hook (k : Service) (h : Hook) (t : State) (hq : s.seq_state = .run k)
      (hk : (k = .epOut ∧ h = .epOut) ∨ (k = .key ∧ h = .key) ∨ (k = .rotary ∧ h = .detent ∧ s.rot_step = .detent))
      (hm : HookMove h s t) : SqMove s t
  | sample (hq : s.seq_state = .run .rotary) (hr : s.rot_step = .sample) : SqMove s { s with
      ret_sample := s.rot_cnt, rot_cnt := 0, rot_step := .accumulate }
  | accumulate (t : State) (hq : s.seq_state = .run .rotary) (hr : s.rot_step = .accumulate)
      (he : execRotAccumulate s.ret_sample s = .next t) : SqMove s t.detentOrReturn

theorem pollStep_move {k : Service} {s t : State} (hq : s.seq_state = .poll k) (h : pollStep k s = .next t) :
    SqMove s t := by
  have he : exec k.pollInstr s = testAndClear k.flag s := by cases k <;> rfl
  unfold pollStep at h
  rw [he] at h
  obtain ⟨u, hu, rfl⟩ := afterNext_eq_next h
  obtain ⟨-, rfl⟩ := testAndClear_cases hu
  cases hf : s.flag k.flag
  · exact .pollMiss k hq hf
  · exact .pollHit k hq hf

theorem stageStep_move {s t : State} (hq : s.seq_state = .run .setup) (hc : s.ctl_state = .dataIn)
    (hp : s.ctl_phase = .stage) (h : stageStep s = .next t) : SqMove s t := by
  unfold stageStep at h
  simp only at h
  split at h
  · cases h
  · next id hi =>
    split at h
    · cases h
    · next bytes hr =>
      obtain ⟨hl, -, rfl⟩ := startEp0_cases (show startEp0 bytes s = _ from h)
      exact .stage id bytes hl hq hc hp hi hr

/-- SQ's step where it stands is one of its moves. -/
theorem sqMain_move {s t : State} (h : sqMain s = some (.next t)) : SqMove s t := by
  unfold sqMain at h
  split at h
  · next n hq =>
    unfold bootStep at h
    cases hh : hookStep .boot s with
    | none => rw [hh] at h; cases h
    | some o =>
      rw [hh] at h
      obtain ⟨u, rfl, rfl⟩ := afterNext_eq_next (Option.some.inj h)
      exact .boot n u hq (hookStep_move hh)
  · next hq =>
    split at h
    · next hw =>
      obtain rfl : _ = t := by simpa using h
      exact .wake hq hw
    · cases h
  · next k hq => exact pollStep_move hq (Option.some.inj h)
  · next k hq =>
    cases k with
    | usbPower =>
      obtain rfl : _ = t := by simpa [runStep, linkStep, State.emit, Service.after] using h
      exact .link hq
    | epOut => exact .hook .epOut .epOut t hq (.inl ⟨rfl, rfl⟩) (hookStep_move h)
    | key => exact .hook .key .key t hq (.inr (.inl ⟨rfl, rfl⟩)) (hookStep_move h)
    | rotary =>
      simp only [runStep, rotaryStep] at h
      split at h
      · next hr =>
        obtain rfl : _ = t := by simpa [exec, execRotSample] using h
        exact .sample hq hr
      · next hr =>
        obtain ⟨u, hu, rfl⟩ := afterNext_eq_next (Option.some.inj h)
        exact .accumulate u hq hr hu
      · next hr => exact .hook .rotary .detent t hq (.inr (.inr ⟨rfl, rfl, hr⟩)) (hookStep_move h)
    | setup =>
      simp only [runStep, ctlStep] at h
      split at h
      · next hc =>
        obtain rfl : _ = t := by simpa using h
        exact .decode hq (.inl hc)
      · next hc =>
        obtain rfl : _ = t := by simpa using h
        exact .decode hq (.inr hc)
      · next hc =>
        obtain ⟨u, hu, rfl⟩ := afterNext_eq_next (Option.some.inj h)
        exact .dispatch u hq hc hu
      · next hc =>
        unfold dataStep at h
        split at h
        · next hp => exact stageStep_move hq hc hp (Option.some.inj h)
        · next hp =>
          obtain ⟨hf, ho⟩ := waitFlag_eq_some h
          obtain rfl : t = _ := by simpa using ho
          exact .started hq hc hp hf
        · next hp =>
          obtain ⟨hf, ho⟩ := waitFlag_eq_some h
          obtain rfl : t = _ := by simpa using ho
          exact .ended hq hc hp hf
        · next hp =>
          obtain ⟨hf, ho⟩ := waitFlag_eq_some h
          obtain rfl : t = _ := by simpa using ho
          exact .dataDone hq hc hp hf
      · next hc =>
        obtain rfl : _ = t := by simpa [statusStep, State.emit, State.serviceReturn, Service.after] using h
        exact .status hq hc

/-! ### The environment -/

/-- A pulse that has a next state moves the counter or is logged (R170). -/
theorem execRotPulse_cases {d : Pulse} {s t : State} (h : execRotPulse d s = .next t) :
    t = { s with rot_cnt := t.rot_cnt } ∨ t = s.raise (.pulseOverflow s.rot_cnt d) := by
  unfold execRotPulse at h
  simp only at h
  split at h
  · obtain rfl : _ = t := by simpa using h
    exact .inl rfl
  · exact .inr (by simpa using h.symm)

/-- Everything an event can do: its data, and then its flag, or a pulse, or nothing (R49). -/
theorem envStep_cases {e : EnvEvent} {s t : State} (h : envStep e s = .next t) :
    envMay e s = true ∧
      ((∃ f, envInstr e s = some (.flagSet f) ∧ t = { envData e s with agent := .env, flags := (envData e s).flags.put f true }) ∨
       (∃ d, envInstr e s = some (.rotPulse d) ∧ execRotPulse d { envData e s with agent := .env } = .next t) ∨
       (envInstr e s = none ∧ t = { envData e s with agent := .env })) := by
  unfold envStep at h
  split at h
  · next hm =>
    refine ⟨hm, ?_⟩
    simp only at h
    have hcase : (∃ f, envInstr e s = some (.flagSet f)) ∨ (∃ d, envInstr e s = some (.rotPulse d)) ∨
        envInstr e s = none := by
      cases e with
      | epStarted ep => cases ep <;> exact .inl ⟨_, rfl⟩
      | epEnded ep => cases ep <;> exact .inl ⟨_, rfl⟩
      | pulse d => exact .inr (.inl ⟨d, rfl⟩)
      | phase p =>
        cases hp : phasePulse s.cfg.ROT_DIR s.rot_phase p with
        | none => exact .inr (.inr (by simp [envInstr, hp]))
        | some d => exact .inr (.inl ⟨d, by simp [envInstr, hp]⟩)
      | _ => exact .inl ⟨_, rfl⟩
    rcases hcase with ⟨f, hf⟩ | ⟨d, hd⟩ | hn
    · rw [hf] at h
      refine .inl ⟨f, hf, ?_⟩
      simpa [exec, execFlagSet, State.setFlag] using h.symm
    · rw [hd] at h
      exact .inr (.inl ⟨d, hd, h⟩)
    · rw [hn] at h
      exact .inr (.inr ⟨hn, by simpa using h.symm⟩)
  · cases h

/-- The five kinds of step, with SQ's step as one of its moves. -/
theorem step_moves {s t : State} (h : step s = .next t) :
    (∃ u chip rest, s.schedule = .reset u chip :: rest ∧ t = (s.passed rest).hardReset u chip) ∨
    (∃ e rest, s.envMoves e rest ∧ envStep e (s.passed rest) = .next t) ∨
    (∃ a rest, s.refused = none ∧ ((s.schedule = .sq a :: rest) ∨ (a = false ∧ s.schedule = [] ∧ rest = [])) ∧
      ((State.mayAbort (s.sqTurn rest) = true ∧
          t = State.serviceReturn { s.sqTurn rest with ctl_state := .idle, ctl_phase := .stage }) ∨
        SqMove (s.sqTurn rest) t)) ∨
    (∃ rest, s.refused = none ∧ ((∃ a, s.schedule = .sq a :: rest) ∨ (s.schedule = [] ∧ rest = [])) ∧
      t = s.passed rest) ∨
    (∃ tn rest r, s.schedule = tn :: rest ∧ tn.isReset = false ∧ rest.any Turn.isReset = true ∧ s.refusedBy rest r ∧
      t = { s.passed rest with refused := some r }) := by
  rcases step_cases h with h | h | ⟨a, rest, hr, hs, hq⟩ | h
  · exact .inl h
  · exact .inr (.inl h)
  · refine .inr (.inr (.inl ⟨a, rest, hr, hs, ?_⟩))
    rcases sqStep_cases hq with ⟨hm, ho⟩ | hm
    · exact .inl ⟨hm, (Host.Outcome.next.inj ho)⟩
    · exact .inr (sqMain_move hm)
  · exact .inr (.inr (.inr h))

/-- The step that SQ makes when it does not prefer the abort step: one of its moves, the abort step when that is its only
one (R207), nothing while it is held, or the mark of a refused state (R301). -/
theorem step_sqMoves_moves {s t : State} {rest : List Turn} (h : s.sqMoves rest) (hs : step s = .next t) :
    (State.mayAbort (s.sqTurn rest) = true ∧
        t = State.serviceReturn { s.sqTurn rest with ctl_state := .idle, ctl_phase := .stage }) ∨
      SqMove (s.sqTurn rest) t ∨ t = s.passed rest ∨ ∃ r, t = { s.passed rest with refused := some r } := by
  rcases step_sqMoves h hs with hq | rfl | ⟨r, -, rfl⟩
  · rcases sqStep_cases hq with ⟨hm, ho⟩ | hm
    · exact .inl ⟨hm, Host.Outcome.next.inj ho⟩
    · exact .inr (.inl (sqMain_move hm))
  · exact .inr (.inr (.inl rfl))
  · exact .inr (.inr (.inr ⟨r, rfl⟩))

end Sys2Proof.Machine
end

