-- ==== Sys2Proof/Laws/PerInstr.lean ====
section
/-! SUPPORT. Statements about every operation as syntax, one lemma per constructor. -/

namespace Sys2Proof.Laws.EncodedLength

/-- The bytes of an operation, if it has any, are those of a SETUP packet (8) or of a bus message (2): R97. -/
def Statement (i : Instr) : Prop := ∀ b, encode i = some b → b.length = 8 ∨ b.length = 2

/-- A Setup Request has eight bytes. -/
theorem of_request {i : Instr} {r : Request} (h : i.request = some r) : Statement i := by
  intro b hb
  simp only [encode, h, Option.some.injEq] at hb
  subst hb
  exact .inl (Vector.length_toList ..)

/-- A bus message has two bytes. -/
theorem of_busMessage {i : Instr} {w : Half} (h : i.request = none) (hw : i.busMessage = some w) : Statement i := by
  intro b hb
  simp only [encode, h, hw, Option.some.injEq] at hb
  subst hb
  exact .inr rfl

/-- An operation without a binary encoding has none. -/
theorem of_unencoded {i : Instr} (h : i.request = none) (hw : i.busMessage = none) : Statement i := by
  intro b hb
  simp [encode, h, hw] at hb

theorem setAddress (rc : BitVec 5) (v x l : Half) : Statement (.setAddress rc v x l) := of_request rfl
theorem setConfiguration (rc : BitVec 5) (v x l : Half) : Statement (.setConfiguration rc v x l) := of_request rfl
theorem clearFeature (rc : BitVec 5) (v x l : Half) : Statement (.clearFeature rc v x l) := of_request rfl
theorem setIdle (rc : BitVec 5) (v x l : Half) : Statement (.setIdle rc v x l) := of_request rfl
theorem getDescriptorDevice (n : Byte) (x l : Half) : Statement (.getDescriptorDevice n x l) := of_request rfl
theorem getDescriptorConfiguration (n : Byte) (x l : Half) : Statement (.getDescriptorConfiguration n x l) :=
  of_request rfl
theorem getDescriptorString (n : Byte) (x l : Half) : Statement (.getDescriptorString n x l) := of_request rfl
theorem getDescriptorReport (n : Byte) (x l : Half) : Statement (.getDescriptorReport n x l) := of_request rfl
theorem getDescriptorDeviceQualifier (n : Byte) (x l : Half) : Statement (.getDescriptorDeviceQualifier n x l) :=
  of_request rfl
theorem getDescriptorOther (rc : BitVec 1) (t n : Byte) (x l : Half) : Statement (.getDescriptorOther rc t n x l) :=
  of_request rfl
theorem unmatched (bm br : Byte) (v x l : Half) : Statement (.unmatched bm br v x l) := of_request rfl
theorem busWrite (a : BitVec 7) (d : Byte) : Statement (.busWrite a d) := of_busMessage rfl rfl
theorem busRead (a : BitVec 7) (d : Byte) : Statement (.busRead a d) := of_busMessage rfl rfl
theorem xfer (w : Half) : Statement (.xfer w) := of_unencoded rfl rfl
theorem flagSet (f : Flag) : Statement (.flagSet f) := of_unencoded rfl rfl
theorem flagTac (f : Flag) : Statement (.flagTac f) := of_unencoded rfl rfl
theorem rotPulse (d : Pulse) : Statement (.rotPulse d) := of_unencoded rfl rfl
theorem rotSample : Statement .rotSample := of_unencoded rfl rfl
theorem rotAccumulate (p : I32) : Statement (.rotAccumulate p) := of_unencoded rfl rfl
theorem rotHasReport : Statement .rotHasReport := of_unencoded rfl rfl
theorem epInSend (ep : Endpoint) (bytes : List Byte) : Statement (.epInSend ep bytes) := of_unencoded rfl rfl
theorem armOut : Statement .armOut := of_unencoded rfl rfl

end Sys2Proof.Laws.EncodedLength
end

