-- ==== Sys2Proof/Tests/Slice0.lean ====
section
/-! SUPPORT. Small tests of one step or one decoding each; every expected value is a test vector of 95_test_vectors.md, an
example of the rule named, or written out by hand from it. -/

namespace Sys2Proof.Tests

open Sys2Proof.Machine

/-! ### Helpers -/

/-- A field of the next state, if there is one. -/
def field {α : Type} (o : Result) (f : State → α) : Option α :=
  match o with
  | .next t => some (f t)
  | .fault _ => none
  | .refused _ => none

/-- The refusal, if there is one. -/
def refusal (o : Result) : Option Refusal :=
  match o with
  | .next _ => none
  | .fault _ => none
  | .refused r => some r

/-- The fault, if there is one. -/
def stuck (o : Result) : Option Fault :=
  match o with
  | .next _ => none
  | .fault r => some r
  | .refused _ => none

/-- The state of the spec's programs: after boot (R343). -/
def booted : State := { State.reset with seq_state := .sleep }

/-- A state in which the environment may deliver USB events. -/
def linked : State := { booted with link_started := true }

/-! ### WellFormed refuses an ill-formed term for each of its checks -/

theorem test_wf_other_device : (Instr.getDescriptorOther 0 0x06 0 0 0).wf = false := by decide
theorem test_wf_other_interface : (Instr.getDescriptorOther 1 0x22 0 0 0).wf = false := by decide
theorem test_wf_unmatched_out : (Instr.unmatched 0x1F 0x05 0 0 0).wf = false := by decide
theorem test_wf_unmatched_class : (Instr.unmatched 0x21 0x0A 0 0 0).wf = false := by decide
theorem test_wf_unmatched_in : (Instr.unmatched 0x81 0x06 0 0 0).wf = false := by decide
theorem test_wf_read_data : (Instr.busRead 0x20 1).wf = false := by decide
theorem test_wf_ep0_long : (Instr.epInSend .ep0 (List.replicate 65 0)).wf = false := by decide
theorem test_wf_epin_long : (Instr.epInSend .epIn (List.replicate 6 0)).wf = false := by decide

/-! ### Decoding: words written out from the encodings of R80, R87, R88 -/

/-- V-ENC-8: SET_ADDRESS to the reserved recipient 31. -/
theorem test_decode_setAddress :
    decode [0x1F, 0x05, 0x03, 0x00, 0x00, 0x00, 0x00, 0x00] = .instr (.setAddress 31 3 0 0) := by decide
/-- Program 1, step 7. -/
theorem test_decode_setConfiguration :
    decode [0x00, 0x09, 0x01, 0x00, 0x00, 0x00, 0x00, 0x00] = .instr (.setConfiguration 0 1 0 0) := by decide
/-- R222's example: CLEAR_FEATURE 02 0000 0081. -/
theorem test_decode_clearFeature :
    decode [0x02, 0x01, 0x00, 0x00, 0x81, 0x00, 0x00, 0x00] = .instr (.clearFeature 2 0 0x81 0) := by decide
/-- R98: SET_IDLE dd rr iiii is SETUP 21 0A ddrr iiii 0000. -/
theorem test_decode_setIdle :
    decode [0x21, 0x0A, 0x34, 0x12, 0x01, 0x00, 0x00, 0x00] = .instr (.setIdle 1 0x1234 1 0) := by decide
/-- Program 1, step 2. -/
theorem test_decode_device :
    decode [0x80, 0x06, 0x00, 0x01, 0x00, 0x00, 0x40, 0x00] = .instr (.getDescriptorDevice 0 0 0x40) := by decide
/-- Program 1, step 5. -/
theorem test_decode_configuration :
    decode [0x80, 0x06, 0x00, 0x02, 0x00, 0x00, 0xFF, 0x00] = .instr (.getDescriptorConfiguration 0 0 0xFF) := by decide
/-- V-ENC-3. -/
theorem test_decode_string :
    decode [0x80, 0x06, 0x02, 0x03, 0x09, 0x04, 0xFF, 0x00] = .instr (.getDescriptorString 2 0x0409 0xFF) := by decide
/-- Program 1, step 9. -/
theorem test_decode_report :
    decode [0x81, 0x06, 0x00, 0x22, 0x00, 0x00, 0x61, 0x00] = .instr (.getDescriptorReport 0 0 0x61) := by decide
/-- V-UD-15. -/
theorem test_decode_qualifier :
    decode [0x80, 0x06, 0x00, 0x06, 0x00, 0x00, 0x0A, 0x00] = .instr (.getDescriptorDeviceQualifier 0 0 0x0A) := by decide
/-- V-ENC-16. -/
theorem test_decode_other :
    decode [0x81, 0x06, 0x00, 0x21, 0x00, 0x00, 0x09, 0x00] = .instr (.getDescriptorOther 1 0x21 0 0 9) := by decide
/-- V-ENC-7: an endpoint recipient. -/
theorem test_decode_unmatched :
    decode [0x82, 0x06, 0x00, 0x01, 0x00, 0x00, 0x00, 0x00] = .instr (.unmatched 0x82 0x06 0x0100 0 0) := by decide
/-- V-BT-1: wire bits 0010 0001 0000 0101. -/
theorem test_decode_busWrite : decode [0x21, 0x05] = .instr (.busWrite 0x21 0x05) := by decide
/-- V-BT-3: wire bits 1010 0000 0000 0000. -/
theorem test_decode_busRead : decode [0xA0, 0x00] = .instr (.busRead 0x20 0) := by decide
theorem test_decode_badLength : decode [1, 2, 3] = .rejected (.badLength 3) := by decide
/-- V-BT-4. -/
theorem test_encode_busRead : encode (.busRead 0x7F 0) = some [0xFF, 0x00] := by decide
theorem test_tableWord_setIdle : decodeTableWord 32 0x00000A20 = some (.setIdle 0 0 0 0) := by decide
theorem test_tableWord_busRead : decodeTableWord 16 0x8000 = some (.busRead 0 0) := by decide

/-- The rest of the key vectors V-ENC-5, 6, 9, 11 to 15, 17: the row each selects. -/
def rowOf (bm br : Byte) (v : Half) : RequestRow := Request.row ⟨bm, br, v, 0, 0⟩
theorem test_rows :
    rowOf 0x80 0x06 0x2200 = .getDescriptorOther ∧ rowOf 0x81 0x06 0x0100 = .getDescriptorOther ∧
    rowOf 0x21 0x09 0x0200 = .unmatched ∧ rowOf 0x02 0x01 0 = .clearFeature ∧ rowOf 0x40 0x05 0 = .unmatched ∧
    rowOf 0x80 0x00 0 = .unmatched ∧ rowOf 0x00 0x03 0 = .unmatched ∧ rowOf 0x01 0x0B 0 = .unmatched ∧
    rowOf 0xA1 0x01 0x0100 = .unmatched := by decide

/-! ### Descriptors and the HID formats -/

/-- V-UD-1. -/
theorem test_rom_dev : descRom .defaults .dev =
    [0x12, 0x01, 0x00, 0x02, 0x00, 0x00, 0x00, 0x40, 0x34, 0x12, 0x78, 0x56, 0x01, 0x00, 0x01, 0x02, 0x00, 0x01] := by
  decide
/-- V-UD-4. -/
theorem test_rom_cfg : descRom .defaults .cfg =
    [0x09, 0x02, 0x29, 0x00, 0x01, 0x01, 0x00, 0x80, 0x32] ++ [0x09, 0x04, 0x00, 0x00, 0x02, 0x03, 0x00, 0x00, 0x00] ++
    [0x09, 0x21, 0x11, 0x01, 0x00, 0x01, 0x22, 0x1B, 0x00] ++ [0x07, 0x05, 0x01, 0x03, 0x40, 0x00, 0x01] ++
    [0x07, 0x05, 0x81, 0x03, 0x40, 0x00, 0x01] := by decide
/-- V-UD-8, V-UD-9, V-UD-10. -/
theorem test_rom_strings :
    descRom .defaults .str0 = [0x04, 0x03, 0x09, 0x04] ∧
    descRom .defaults .str1 = [0x08, 0x03, 0x4D, 0x00, 0x46, 0x00, 0x52, 0x00] ∧
    descRom .defaults .str2 = [0x0C, 0x03, 0x50, 0x00, 0x41, 0x00, 0x4E, 0x00, 0x45, 0x00, 0x4C, 0x00] := by decide
/-- R272: the default bytes are the items of its table. -/
theorem test_report_items : defaultItems.flatMap HidItem.bytes = Config.defaults.REPORT_DESC := by decide
theorem test_report_ok : reportDescOk Config.defaults.REPORT_DESC = true := by decide
/-- R270: a descriptor with a report ID (global tag 8, prefix 85) is refused. -/
theorem test_report_id : reportDescOk (0x85 :: 0x01 :: Config.defaults.REPORT_DESC) = false := by decide
/-- R270: without a Logical Minimum item the logical minimum is not declared. -/
theorem test_report_minimum :
    reportDescOk (Config.defaults.REPORT_DESC.take 7 ++ Config.defaults.REPORT_DESC.drop 9) = false := by decide
theorem test_config_ok : configOk Config.defaults = true := by decide
/-- V-ENC-10, V-ENC-18 to V-ENC-20. -/
theorem test_pack :
    packReport 123450 456780 = #v[0x3A, 0xE2, 0xC1, 0x84, 0x6F] ∧ packReport 999999 0 = #v[0x3F, 0x42, 0x0F, 0, 0] ∧
    packReport 0 999999 = #v[0, 0, 0xF0, 0x23, 0xF4] ∧ packReport 1 1 = #v[1, 0, 0x10, 0, 0] := by decide
theorem test_unpack : reportV1 #v[0x3A, 0xE2, 0xC1, 0x84, 0x6F] = 0x6F84C := by decide

/-! ### Signal Flags -/

/-- V-SF-2. -/
theorem test_flag_coalesce :
    field (performAll [.set .key, .set .key, .tac .key] booted) (fun t => (t.ret_flag, t.flag .key)) = some (true, false) := by
  decide
theorem test_flag_coalesce_second :
    field (performAll [.set .key, .set .key, .tac .key, .tac .key] booted) (·.ret_flag) = some false := by decide
/-- V-SF-8. -/
theorem test_flag_writer : refusal (exec (.flagSet .key) booted) = some (.flagWriter .key) := by decide
theorem test_hasReport :
    field (performAll [.report, .report, .tac .rotReport] booted) (·.ret_flag) = some true := by decide

/-! ### Bus -/

/-- V-BT-5. -/
theorem test_xfer_start :
    field (exec (.xfer 0x0400) (booted.setFlag .busDone))
      (fun t => (t.flag .busDone, t.bus_txbuf, t.bus_busy, t.emitted)) =
    some (false, #v[0x04, 0x00], true, [.busStart #v[0x04, 0x00]]) := by decide
/-- V-BT-6. -/
theorem test_xfer_result :
    field (step { booted with
        seq_state := .run .key, cmd := .busWait .caller, bus_rxbuf := #v[0x12, 0x34]
        flags := booted.flags.put .busDone true })
      (fun t => (t.bus_result, t.ret_word, t.cmd, t.flag .busDone)) = some (0x1234, 0x1234, .idle, false) := by decide
/-- V-BT-10. -/
theorem test_xfer_unknown :
    refusal (exec (.xfer 0x2105)
      { booted with cfg := { booted.cfg with BUS_ADDR_SET := Vector.replicate 128 false } }) =
    some (.busUnknownAddr 0x2105) := by decide
/-- R300: the codes of the refusals and of the logged outcomes. -/
theorem test_codes :
    (Refusal.busUnknownAddr 0).code = some 0x30 ∧ (Refusal.outOfRange .busTx 2 1).code = some 0x31 ∧
    (Refusal.flagWriter .key).code = some 0x32 ∧ (LogEntry.stallBadConfig 0).code = 0x11 ∧
    (LogEntry.busBusy 0).code = 0x22 ∧ (LogEntry.busBusy 0).outcomeClass = .fault ∧
    (Refusal.flagWriter .key).outcomeClass = some .refuse ∧ (Fault.hang .busDone).outcomeClass = .hang := by decide
/-- V-BT-11. -/
theorem test_xfer_busy :
    field (exec (.xfer 0x0401) { booted with bus_busy := true })
      (fun t => (t.fault_log, t.emitted, t.fault_led)) = some ([.busBusy 0x0401], [], false) := by decide
/-- V-BT-1 and V-BT-3: the words the two classes send. -/
theorem test_busWrite : field (exec (.busWrite 0x21 0x05) booted) (·.bus_txbuf) = some #v[0x21, 0x05] := by decide
theorem test_busRead :
    field (exec (.busRead 0x20 0) booted) (fun t => (t.bus_txbuf, t.cmd)) =
      some (#v[0xA0, 0x00], .busWait .collect) := by decide
/-- V-BT-13: MOSI at the 16 rising edges of the frame of A000. -/
theorem test_frame :
    (risingSamples (busFrame 0xA000 0x1234)).map Prod.fst =
      [true, false, true, false, false, false, false, false] ++ List.replicate 8 false := by decide
theorem test_frame_received : receivedBytes (busFrame 0xA000 0x1234) = #v[0x12, 0x34] := by decide

/-! ### Rotary accumulator -/

/-- The answer and the remainder of one ACCUMULATE. -/
def accumulated (acc p : Int) : Option (Int × Int) :=
  field (exec (.rotAccumulate (BitVec.ofInt 32 p)) { booted with rot_acc := BitVec.ofInt 32 acc })
    (fun t => (t.ret_indents.toInt, t.rot_acc.toInt))
/-- V-RA-4, V-RA-6, V-RA-11, V-RA-12, V-RA-14, V-RA-16. -/
theorem test_accumulate :
    accumulated 0 3 = some (0, 3) ∧ accumulated 0 7 = some (1, 3) ∧ accumulated 0 (-7) = some (-1, -3) ∧
    accumulated 3 (-10) = some (-1, -3) ∧ accumulated 3 2147483644 = some (536870911, 3) ∧
    accumulated 0 (-2147483648) = some (-536870912, 0) := by decide
/-- V-RA-15. -/
theorem test_accumulate_overflow :
    field (exec (.rotAccumulate 2147483645) { booted with rot_acc := 3 })
      (fun t => (t.ret_indents, t.rot_acc, t.fault_log)) = some (0, 3, [.accOverflow 3 2147483645]) := by decide
/-- V-RA-20. -/
theorem test_pulse : field (exec (.rotPulse .minus) { booted with rot_cnt := 5 }) (·.rot_cnt) = some 4 := by decide
/-- V-RA-21. -/
theorem test_pulse_overflow :
    field (exec (.rotPulse .plus) { booted with rot_cnt := 2147483647 }) (fun t => (t.rot_cnt, t.fault_log)) =
      some (2147483647, [.pulseOverflow 2147483647 .plus]) := by decide
/-- V-RA-23. -/
theorem test_sample :
    field (exec .rotSample { booted with rot_cnt := 7 }) (fun t => (t.ret_sample, t.rot_cnt)) = some (7, 0) := by decide
/-- R171: 00 to 01 is one pulse, 00 to 11 none. -/
theorem test_phase :
    phasePulse true ⟨false, false⟩ ⟨false, true⟩ = some .plus ∧ phasePulse true ⟨false, false⟩ ⟨true, true⟩ = none ∧
    phasePulse true ⟨true, false⟩ ⟨false, false⟩ = some .plus ∧ phasePulse true ⟨false, true⟩ ⟨false, false⟩ = some .minus := by
  decide

/-! ### Requests -/

/-- V-UC-3. -/
theorem test_setConfiguration :
    field (exec (.setConfiguration 0 1 0 0) booted) (fun t => (t.configured, t.out_armed, t.emitted, t.ctl_state)) =
      some (true, true, [.epEnable, .epOutArm], .status) := by decide
/-- V-UC-6. -/
theorem test_setConfiguration_bad :
    field (exec (.setConfiguration 0 0x0101 0 0) booted) (fun t => (t.configured, t.fault_log, t.ctl_state)) =
      some (false, [.stallBadConfig 0x0101], .stalled) := by decide
/-- V-UC-1, V-UC-8, V-UC-9. -/
theorem test_setAddress : field (exec (.setAddress 0 7 0 0) booted) (·.ctl_state) = some .status := by decide
theorem test_clearFeature : field (exec (.clearFeature 2 0 0x81 0) booted) (·.ctl_state) = some .status := by decide
theorem test_setIdle : field (exec (.setIdle 1 0 0 0) booted) (·.ctl_state) = some .status := by decide
/-- V-UC-12. -/
theorem test_unmatched :
    field (exec (.unmatched 0xC0 0x01 0 0 8) booted) (fun t => (t.fault_led, t.fault_log, t.emitted)) =
      some (true, [.stallUnmatched #v[0xC0, 0x01, 0, 0, 0, 0, 8, 0]], [.ep0Stall]) := by decide
/-- V-UD-2, V-UD-6, V-UD-3. -/
theorem test_device :
    field (exec (.getDescriptorDevice 0 0 8) booted) (fun t => (t.reply_src, t.reply_len, t.ctl_state, t.zlp_pending)) =
      some (some .dev, 8, .dataIn, false) := by decide
theorem test_configuration :
    field (exec (.getDescriptorConfiguration 0 0 0xFF) booted) (fun t => (t.reply_src, t.reply_len)) =
      some (some .cfg, 41) := by decide
theorem test_device_zero :
    field (exec (.getDescriptorDevice 0 0 0) booted) (·.ctl_state) = some .status := by decide
/-- V-UD-12, V-UD-14, V-UD-15, V-UD-16. -/
theorem test_string_index :
    field (exec (.getDescriptorString 3 0x0409 0xFF) booted) (·.fault_log) = some [.stallBadDescIndex 0x03 3] := by decide
theorem test_string_two :
    field (exec (.getDescriptorString 2 0x0407 0xFF) booted) (fun t => (t.reply_src, t.reply_len)) =
      some (some .str2, 12) := by decide
theorem test_report_index :
    field (exec (.getDescriptorReport 1 0 0x40) booted) (·.fault_log) = some [.stallBadDescIndex 0x22 1] := by decide
theorem test_qualifier :
    field (exec (.getDescriptorDeviceQualifier 0 0 0x0A) booted) (·.fault_log) =
      some [.stallUnsupportedDesc 0x06 0] := by decide
theorem test_other :
    field (exec (.getDescriptorOther 1 0x21 0 0 9) booted) (fun t => (t.fault_log, t.ctl_state)) =
      some ([.stallUnsupportedDesc 0x21 1], .stalled) := by decide

/-! ### Endpoints -/

theorem test_epInSend :
    field (exec (.epInSend .epIn [1, 2, 3, 4, 5]) (booted.setFlag .epInEnded))
      (fun t => (t.epin_buf, t.flag .epInEnded, t.emitted, t.cmd)) =
    some (#v[1, 2, 3, 4, 5], false, [.epInStart .epIn [1, 2, 3, 4, 5]], .inStarted) := by decide
theorem test_epInSend_range :
    refusal (exec (.epInSend .epIn [1, 2, 3, 4, 5, 6]) booted) = some (.outOfRange .epInBuf 0 6) := by decide
theorem test_armOut :
    field (exec .armOut booted) (fun t => (t.out_armed, t.emitted)) = some (true, [.epOutArm]) := by decide

/-! ### Steps -/

/-- V-SQ-1. -/
theorem test_sleep : field (step booted) (·.seq_state) = some .sleep := by decide
/-- V-UC-18: stuck at WAIT_STARTED. -/
theorem test_hang :
    stuck (step { linked with seq_state := .run .setup, ctl_state := .dataIn, ctl_phase := .waitStarted }) =
      some (.hang .ep0Started) := by decide
/-- V-UC-19: a SETUP packet is latched and its flag set. -/
theorem test_event_setup :
    field (step { linked with schedule := [.env (.setup #v[0xC0, 1, 0, 0, 0, 0, 8, 0])] })
      (fun t => (t.setup_latch[0], t.flag .setup)) = some (0xC0, true) := by decide
/-- U21: no SETUP before the link is started. -/
theorem test_event_duty :
    refusal (step { booted with schedule := [.env (.setup #v[0, 0, 0, 0, 0, 0, 0, 0])] }) =
      some (.envDuty (.setup #v[0, 0, 0, 0, 0, 0, 0, 0])) := by decide
/-- R148: a frame given by its MISO bits fills `bus_rxbuf`, first byte high, and its wave has 33 levels between its two ends. -/
theorem test_event_frame :
    field (step { linked with bus_busy := true, schedule := [.env (.busFrame 0x1234)] })
      (fun t => (t.bus_rxbuf, t.bus_busy, t.wave.length)) = some (#v[0x12, 0x34], false, 35) := by decide
/-- R171: from 00 to 01 the counter moves by one, and from 00 to 11 it does not. -/
theorem test_event_phase :
    field (step { linked with schedule := [.env (.phase ⟨false, true⟩)] }) (fun t => (t.rot_cnt, t.rot_phase)) =
      some (1, ⟨false, true⟩) ∧
    field (step { linked with schedule := [.env (.phase ⟨true, true⟩)] }) (·.rot_cnt) = some 0 := by decide
/-- Program 1, step 2: the one packet of the device descriptor. -/
theorem test_stage :
    field (step { linked with
        seq_state := .run .setup, ctl_state := .dataIn, reply_src := some .dev, reply_len := 8 })
      (fun t => (t.emitted, t.ep0_len, t.ctl_phase)) =
    some ([.epInStart .ep0 [0x12, 0x01, 0x00, 0x02, 0x00, 0x00, 0x00, 0x40]], 8, .waitStarted) := by decide
/-- Program 1, step 3: the status stage ends the transfer. -/
theorem test_status :
    field (step { linked with seq_state := .run .setup, ctl_state := .status })
      (fun t => (t.emitted, t.ctl_state, t.seq_state)) = some ([.ep0Status], .idle, .poll .epOut) := by decide
/-- V-SQ-6. -/
theorem test_power :
    field (step { linked with seq_state := .run .usbPower }) (fun t => (t.emitted, t.link_started)) =
      some ([.usbLinkStart], true) := by decide
/-- An operation placed after reset runs in the next step. -/
theorem test_fetch_setup :
    field (step (State.reset.withFetchWord 32 0x02000680)) (fun t => (t.ctl_state, t.seq_state)) =
      some (.status, .run .setup) := by decide
theorem test_fetch_bus :
    field (step (State.reset.withFetchWord 16 0x8000)) (fun t => (t.bus_txbuf, t.cmd)) =
      some (#v[0x80, 0x00], .busWait .collect) := by decide

/-! ### Witnesses: for each obligation with hypotheses, states and operands that meet them all together

Where a statement has several clauses, each has its case, at the edge of its range. -/

/-- `booted` at an event of the environment. -/
def eventful : State := { booted with agent := .env }

/-- A serial peripheral that knows no register. -/
def deaf : State := { booted with cfg := { booted.cfg with BUS_ADDR_SET := Vector.replicate 128 false } }

/-- Service `k` running, and SQ's turn. -/
def running (k : Service) : State := { linked with seq_state := .run k, schedule := [.sq false] }

/-- Service 2 running with the control state `c`. -/
def inTransfer (c : CtlState) : State := { running .setup with ctl_state := c }

/-- The data stage of the 18 device descriptor bytes, at the phase `p`, with the flag `f` set. -/
def sending (p : CtlPhase) (f : Flag) : State :=
  { inTransfer .dataIn with
    ctl_phase := p, reply_src := some .dev, reply_len := 18, ep0_len := 18
    flags := booted.flags.put f true }

/-- A detent hook at the position `c` of a command. -/
def inDetent (c : CmdPos) : State := { running .rotary with rot_step := .detent, cmd := c }

/-- The environment's turn with the event `e`, when every event may come. -/
def awaiting (e : EnvEvent) : State :=
  { linked with
    configured := true, out_armed := true, bus_busy := true
    ep0_owed := [.started, .ended, .dataDone], epin_owed := [.started, .ended], schedule := [.env e] }

theorem starts_busWrite {a : BitVec 7} {d : Byte} {w : Half} (h : w.toNat = 256 * a.toNat + d.toNat) :
    startsTransaction (.busWrite a d) w .caller := .inr (.inl ⟨a, d, rfl, h, rfl⟩)
theorem starts_busRead {a : BitVec 7} {d : Byte} {w : Half} (h : w.toNat = 32768 + 256 * a.toNat + d.toNat) :
    startsTransaction (.busRead a d) w .collect := .inr (.inr ⟨a, d, rfl, h, rfl⟩)

theorem witness_FlagSetSetsOnlyItsFlag : eventful.agent = .env := by decide
theorem witness_FlagTacReturnsAndClears : booted.agent = .sq := by decide
theorem witness_HasReportConsumesTheReportFlag : booted.agent = .sq := by decide
theorem witness_FlagWritersAreSeparated :
    startsTransaction (.busWrite 0x7F 0) 0x7F00 .caller ∧ booted.agent = .sq ∧ eventful.agent = .env ∧ eventful.bus_busy = false ∧
    eventful.cfg.BUS_ADDR_SET[((0x7F00 : Half).extractLsb' 8 7).toNat]'(BitVec.isLt _) = true ∧
    (List.replicate 64 (0 : Byte)).length ≤ 64 ∧ ([] : List Byte).length ≤ 64 ∧
    (List.replicate 5 (0 : Byte)).length ≤ 5 := ⟨starts_busWrite (by decide), by decide⟩

/-- One case for each of the three operations, at the largest address and the largest data. -/
theorem witness_TransactionStarts :
    startsTransaction (.xfer 0xFFFF) 0xFFFF .caller ∧ startsTransaction (.busWrite 0x7F 0xFF) 0x7FFF .caller ∧
    startsTransaction (.busRead 0x7F 0xFF) 0xFFFF .collect ∧ booted.agent = .sq ∧ booted.bus_busy = false ∧
    booted.cfg.BUS_ADDR_SET[((0x7FFF : Half).extractLsb' 8 7).toNat]'(BitVec.isLt _) = true ∧
    booted.cfg.BUS_ADDR_SET[((0xFFFF : Half).extractLsb' 8 7).toNat]'(BitVec.isLt _) = true :=
  ⟨.inl ⟨rfl, rfl⟩, starts_busWrite (by decide), starts_busRead (by decide), by decide⟩
theorem witness_TransactionWhileBusyIsLogged :
    startsTransaction (.xfer 0x0401) 0x0401 .caller ∧ startsTransaction (.busWrite 0x04 1) 0x0401 .caller ∧
    startsTransaction (.busRead 0x04 0) 0x8400 .collect ∧ State.bus_busy { booted with bus_busy := true } = true ∧
    booted.cfg.BUS_ADDR_SET[((0x0401 : Half).extractLsb' 8 7).toNat]'(BitVec.isLt _) = true ∧
    booted.cfg.BUS_ADDR_SET[((0x8400 : Half).extractLsb' 8 7).toNat]'(BitVec.isLt _) = true :=
  ⟨.inl ⟨rfl, rfl⟩, starts_busWrite (by decide), starts_busRead (by decide), by decide⟩
theorem witness_UnknownAddressIsRefused :
    startsTransaction (.xfer 0x2105) 0x2105 .caller ∧ startsTransaction (.busWrite 0x21 5) 0x2105 .caller ∧
    startsTransaction (.busRead 0x21 5) 0xA105 .collect ∧
    deaf.cfg.BUS_ADDR_SET[((0x2105 : Half).extractLsb' 8 7).toNat]'(BitVec.isLt _) = false ∧
    deaf.cfg.BUS_ADDR_SET[((0xA105 : Half).extractLsb' 8 7).toNat]'(BitVec.isLt _) = false :=
  ⟨.inl ⟨rfl, rfl⟩, starts_busWrite (by decide), starts_busRead (by decide), by decide⟩
/-- The two clauses, in a detent hook and in boot. -/
theorem witness_TransactionReturnsTheReceivedWord :
    (inDetent (.busWait .caller)).refused = none ∧ (inDetent (.busWait .caller)).schedule = [.sq false] ∧ (inDetent (.busWait .caller)).atHook = some .detent ∧
    (inDetent (.busWait .caller)).flag .busDone = false ∧
    State.atHook { inDetent (.busWait .collect) with seq_state := .boot 0 } = some .boot ∧
    ((inDetent (.busWait .collect)).setFlag .busDone).flag .busDone = true := by decide
theorem witness_BusReadIsOneTransactionLate :
    let s : State := { inDetent .idle with
      oracle := [.cmd (.message (busWord 1 0x20 0))]
      schedule :=
        [.sq false, .env (.busEnd #v[9, 8]), .sq false, .sq false, .env (.busEnd #v[7, 0x3C]), .sq false] }
    s.refused = none ∧ s.atHook = some .detent ∧ s.cmd = .idle ∧ s.bus_busy = false ∧
    ¬ forbiddenCommand .detent (.message (busWord 1 0x20 0)) s ∧
    s.cfg.BUS_ADDR_SET[(0x20 : BitVec 7).toNat]'(BitVec.isLt _) = true ∧
    knowsAddr s.cfg (busAddr s.cfg.BUS_NOP_WORD) = true ∧
    periphContract s.periph_prev (fun _ => 0x3C) #v[9, 8] ∧
    periphContract (some (busWord 1 0x20 0)) (fun _ => 0x3C) #v[7, 0x3C] := by
  refine ⟨rfl, rfl, rfl, rfl, by simp [forbiddenCommand], by decide, by decide, trivial, fun _ => rfl⟩

/-- The last pulse that is counted and the first that is not, at both ends of the range. -/
theorem witness_PulseIsCountedOrLogged :
    (0x7FFFFFFE : I32).toInt + 1 = 2147483647 ∧ (0x80000001 : I32).toInt - 1 = -2147483648 ∧
    (0x7FFFFFFF : I32).toInt + 1 = 2147483648 ∧ (0x80000000 : I32).toInt - 1 = -2147483649 := by decide
/-- The largest and the smallest sum in range, and the two sums next to them. -/
theorem witness_AccumulateSplitsTheSum :
    (3 : I32).toInt + (0x7FFFFFFC : I32).toInt = 2147483647 ∧ (0 : I32).toInt + (0x80000000 : I32).toInt = -2147483648 ∧
    (3 : I32).toInt + (0x7FFFFFFD : I32).toInt = 2147483648 ∧
    (-1 : I32).toInt + (0x80000000 : I32).toInt = -2147483649 := by decide
/-- Three pulses, which are no detent, and four, which are one. -/
theorem witness_RotaryServiceKeepsEveryPulse :
    let s (n : I32) : State := { running .rotary with schedule := [.sq false, .sq false], rot_cnt := n }
    (s 3).refused = none ∧ (s 3).seq_state = .run .rotary ∧ (s 3).rot_step = .sample ∧ (s 3).rot_acc.toInt + (s 3).rot_cnt.toInt = 3 ∧
    (runPorts 2 (s 3)).map (fun x => (x.2.ret_indents, x.2.seq_state)) = some (0, .sleep) ∧
    (runPorts 2 (s 4)).map (fun x => (x.2.ret_indents, x.2.rot_step)) = some (1, .detent) := by decide

theorem witness_SetConfigurationAcceptsOnlyOne :
    (1 : Half).toNat = 1 ∧ (0 : Half).toNat ≠ 1 ∧ (2 : Half).toNat ≠ 1 ∧ (0x0101 : Half).toNat ≠ 1 := by decide
/-- A reply of no byte, of one, and of the whole entry; and one of whole packets, where a zero-length packet follows
exactly when more was asked for. -/
theorem witness_ServedDescriptorReply :
    let s : State := { booted with cfg := { booted.cfg with REPORT_DESC := List.replicate 64 0 } }
    field (exec (.getDescriptorDevice 0 0 0) s) (·.ctl_state) = some .status ∧
    field (exec (.getDescriptorConfiguration 0 0 1) s) (·.ctl_state) = some .dataIn ∧
    field (exec (.getDescriptorString 0 0 4) s) (·.reply_len) = some 4 ∧
    field (exec (.getDescriptorString 1 0 0xFFFF) s) (·.reply_len) = some 8 ∧
    field (exec (.getDescriptorString 2 0 12) s) (·.reply_len) = some 12 ∧
    field (exec (.getDescriptorReport 0 0 64) s) (·.zlp_pending) = some false ∧
    field (exec (.getDescriptorReport 0 0 65) s) (·.zlp_pending) = some true := by decide
/-- The first index of each type that names no entry, and the last one there is. -/
theorem witness_BadDescriptorIndexStalls :
    (1 : Byte).toNat ≠ 0 ∧ (255 : Byte).toNat ≠ 0 ∧ 3 ≤ (3 : Byte).toNat ∧ 3 ≤ (255 : Byte).toNat := by decide
/-- Texts at the longest length. -/
theorem witness_DescriptorTableLengths :
    let c := { Config.defaults with MFR_STRING := List.replicate 126 0x41, PRODUCT_STRING := List.replicate 126 0x42 }
    c.MFR_STRING.length ≤ 126 ∧ c.PRODUCT_STRING.length ≤ 126 := by simp
theorem witness_DescriptorTableNeverChanges : ∃ t, step (running .setup) = .next t := ⟨_, rfl⟩

theorem witness_DecodeOfEncode :
    (Instr.setAddress 31 0xFFFF 0 0).wf = true ∧
    encode (.setAddress 31 0xFFFF 0 0) = some [0x1F, 0x05, 0xFF, 0xFF, 0, 0, 0, 0] ∧
    (Instr.getDescriptorOther 1 0x01 0 0 0).wf = true ∧
    encode (.getDescriptorOther 1 0x01 0 0 0) = some [0x81, 0x06, 0, 1, 0, 0, 0, 0] ∧
    (Instr.busRead 0x7F 0).wf = true := by decide
theorem witness_EncodeOfDecode : decode [0xFF, 0xFF] = .instr (.busRead 0x7F 0xFF) := by decide
theorem witness_DispatchPerformsTheDecodedRequest :
    (inTransfer .setupDecoded).sqMoves [] ∧ (inTransfer .setupDecoded).seq_state = .run .setup ∧
    (inTransfer .setupDecoded).ctl_state = .setupDecoded ∧
    decode (inTransfer .setupDecoded).req.toBytes.toList = .instr (.unmatched 0 0 0 0 0) :=
  ⟨⟨rfl, .inl rfl⟩, rfl, rfl, by decide⟩
/-- Every command in a hook that may issue it, and the end of each hook. -/
theorem witness_HookPerformsTheDecodedMessage :
    let s (c : HookCmd) : State := { inDetent .idle with oracle := [.cmd c] }
    let e : State := { running .epOut with hook_armed := true, oracle := [.done] }
    (∀ c, (s c).sqMoves []) ∧ (s .armOut).atHook = some .detent ∧ Hook.detent ≠ .boot ∧ (s .armOut).cmd = .idle ∧
    ¬ forbiddenCommand .detent (.message 0x2105) (s .armOut) ∧ commandPerforms (.message 0x2105) (.busWrite 0x21 0x05) ∧
    ¬ forbiddenCommand .detent (.sendIn #v[1, 2, 3, 4, 5]) (s .armOut) ∧
    commandPerforms (.sendIn #v[1, 2, 3, 4, 5]) (.epInSend .epIn [1, 2, 3, 4, 5]) ∧
    ¬ forbiddenCommand .epOut .armOut (running .epOut) ∧ (running .epOut).atHook = some .epOut ∧
    commandPerforms .armOut .armOut ∧ ¬ forbiddenCommand .key (.xfer 0xFFFF) (running .key) ∧
    commandPerforms (.xfer 0xFFFF) (.xfer 0xFFFF) ∧ e.sqMoves [] ∧ e.atHook = some .epOut ∧ e.oracle = .done :: [] ∧
    e.hook_armed = true :=
  ⟨fun _ => ⟨rfl, .inl rfl⟩, rfl, by decide, rfl, by simp [forbiddenCommand], .inr (.inl ⟨_, rfl, by decide⟩),
    by simp [forbiddenCommand, inDetent, running, linked, booted, State.reset, State.atReset],
    .inr (.inr (.inl ⟨_, rfl, rfl⟩)),
    by simp [forbiddenCommand, running, linked, booted, State.reset, State.atReset], rfl,
    .inr (.inr (.inr ⟨rfl, rfl⟩)), by simp [forbiddenCommand], .inl ⟨_, rfl, rfl⟩, ⟨rfl, .inl rfl⟩, rfl, rfl, rfl⟩
theorem witness_BootPerformsTheDecodedMessage :
    let s : State := { State.reset with oracle := [.cmd (.message 0xA000)] }
    s.sqMoves [] ∧ s.seq_state = .boot 0 ∧ s.cmd = .idle ∧ s.oracle = .cmd (.message 0xA000) :: [] ∧
    ¬ forbiddenCommand .boot (.message 0xA000) s ∧ commandPerforms (.message 0xA000) (.busRead 0x20 0) :=
  ⟨⟨rfl, .inr ⟨rfl, rfl⟩⟩, rfl, rfl, rfl, by simp [forbiddenCommand], .inr (.inl ⟨_, rfl, by decide⟩)⟩

theorem witness_DecodeReadsTheLatch :
    (inTransfer .idle).sqMoves [] ∧ (inTransfer .idle).seq_state = .run .setup ∧ (inTransfer .idle).ctl_state = .idle ∧
    (inTransfer .stalled).sqMoves [] ∧ (inTransfer .stalled).ctl_state = .stalled :=
  ⟨⟨rfl, .inl rfl⟩, rfl, rfl, ⟨rfl, .inl rfl⟩, rfl⟩
/-- A packet of 18 bytes, and the zero-length packet at the end of a reply. -/
theorem witness_StageSendsTheNextPacket :
    let s := sending .stage .key
    s.sqMoves [] ∧ s.seq_state = .run .setup ∧ s.ctl_state = .dataIn ∧ s.ctl_phase = .stage ∧
    s.reply_src = some .dev ∧ s.reply_off.toNat ≤ s.reply_len.toNat ∧
    s.reply_len.toNat ≤ (descRom s.cfg .dev).length ∧ (18 : Half).toNat ≤ s.reply_len.toNat :=
  ⟨⟨rfl, .inl rfl⟩, rfl, rfl, rfl, rfl, by decide, by decide, by decide⟩
/-- The three waits; the last one with bytes left, with only a zero-length packet left, and with nothing left. -/
theorem witness_PacketWaitsInOrder :
    (sending .waitStarted .ep0Started).sqMoves [] ∧ (sending .waitStarted .ep0Started).flag .ep0Started = true ∧
    (sending .waitEnded .ep0Ended).flag .ep0Ended = true ∧
    (sending .waitDataDone .ep0DataDone).flag .ep0DataDone = true ∧
    field (step { sending .waitDataDone .ep0DataDone with reply_len := 19 }) (fun t => (t.ctl_phase, t.reply_off)) =
      some (.stage, 18) ∧
    field (step { sending .waitDataDone .ep0DataDone with zlp_pending := true })
      (fun t => (t.ctl_phase, t.zlp_pending)) = some (.stage, false) ∧
    field (step (sending .waitDataDone .ep0DataDone)) (·.ctl_state) = some .status :=
  ⟨⟨rfl, .inl rfl⟩, by decide, by decide, by decide, by decide, by decide, by decide⟩
theorem witness_DataStageSendsThePrefix :
    let s : State := { sending .stage .key with zlp_pending := true, schedule := packetsTurns 2 ++ [] }
    s.refused = none ∧ s.seq_state = .run .setup ∧ s.ctl_state = .dataIn ∧ s.ctl_phase = .stage ∧
    s.link_started = true ∧ s.reply_src = some .dev ∧ s.reply_off.toNat = 0 ∧ 0 < s.reply_len.toNat ∧
    s.reply_len.toNat ≤ (descRom s.cfg .dev).length ∧ s.ep0_owed = [] ∧
    2 = (s.reply_len.toNat + 63) / 64 + (if s.zlp_pending then 1 else 0) := by decide
theorem witness_StatusStageEndsTheTransfer :
    (inTransfer .status).sqMoves [] ∧ (inTransfer .status).seq_state = .run .setup ∧
    (inTransfer .status).ctl_state = .status := ⟨⟨rfl, .inl rfl⟩, rfl, rfl⟩
theorem witness_ControlStateMovesByTheTable :
    (∃ t, step (inTransfer .stalled) = .next t) ∧
    ∀ u chip rest, (inTransfer .stalled).schedule ≠ .reset u chip :: rest :=
  ⟨⟨_, rfl⟩, by simp [inTransfer, running]⟩
theorem witness_TransferHoldsTheSequencer :
    (∃ t, step (inTransfer .status) = .next t) ∧ (inTransfer .status).seq_state = .run .setup ∧
    ∀ u chip rest, (inTransfer .status).schedule ≠ .reset u chip :: rest :=
  ⟨⟨_, rfl⟩, rfl, by simp [inTransfer, running]⟩
theorem witness_AbortOnlyWhereAllowed :
    let s : State := { sending .waitEnded .setup with schedule := [.sq true] }
    let t : State := { s with cfg := { s.cfg with SETUP_ABORTS := true } }
    let held (p : CtlPhase) : State := { t with ctl_phase := p, schedule := [.sq false] }
    t.refused = none ∧ t.schedule = .sq true :: [] ∧ t.cfg.SETUP_ABORTS = true ∧ t.flag .setup = true ∧
    t.seq_state = .run .setup ∧ t.ctl_state = .dataIn ∧ t.ctl_phase ≠ .stage ∧
    (held .waitEnded).schedule = [.sq false] ∧ (held .waitEnded).refused = none ∧
    (held .waitStarted).flag .ep0Started = false ∧ (held .waitEnded).flag .ep0Ended = false ∧
    (held .waitDataDone).flag .ep0DataDone = false ∧ s.schedule = .sq true :: [] ∧ s.cfg.SETUP_ABORTS = false ∧
    State.flag { t with flags := t.flags.put .setup false } .setup = false ∧
    State.ctl_phase { t with ctl_phase := .stage } = .stage := by
  decide

/-- Each buffer empty, full, and one byte too small. -/
theorem witness_EpInSendStartsTheTransfer :
    booted.agent = .sq ∧ ([] : List Byte).length ≤ 5 ∧ (List.replicate 64 (0 : Byte)).length ≤ 64 ∧
    64 < (List.replicate 65 (0 : Byte)).length ∧ (List.replicate 5 (0 : Byte)).length ≤ 5 ∧
    5 < (List.replicate 6 (0 : Byte)).length := by decide
theorem witness_SendInWaitsInOrder :
    (inDetent .inStarted).sqMoves [] ∧ (inDetent .inStarted).atHook = some .detent ∧ Hook.detent ≠ .boot ∧
    ((inDetent .inStarted).setFlag .epInStarted).flag .epInStarted = true ∧
    ((inDetent .inEnded).setFlag .epInEnded).flag .epInEnded = true :=
  ⟨⟨rfl, .inl rfl⟩, rfl, by decide, by decide, by decide⟩
/-- Each of the five polls finds its flag set, and finds it clear. -/
theorem witness_PollsInFixedOrder :
    let s (k : Service) : State := { linked with seq_state := .poll k, schedule := [.sq false] }
    (∀ k, (s k).sqMoves []) ∧
    [Service.usbPower, .setup, .epOut, .key, .rotary].map (fun k => field (step (s k)) (·.seq_state)) =
      [some (.poll .setup), some (.poll .epOut), some (.poll .key), some (.poll .rotary), some .sleep] ∧
    [Service.usbPower, .setup, .epOut, .key, .rotary].map
        (fun k => field (step ((s k).setFlag k.flag)) (·.seq_state)) =
      [some (.run .usbPower), some (.run .setup), some (.run .epOut), some (.run .key), some (.run .rotary)] :=
  ⟨fun _ => ⟨rfl, .inl rfl⟩, by decide, by decide⟩
theorem witness_SleepWakesOnServiceFlags :
    let s : State := { booted with schedule := [.sq false] }
    s.sqMoves [] ∧ s.seq_state = .sleep ∧ s.woken = false ∧
    [Flag.usbPower, .setup, .epOut, .key, .rotReport].all (fun f => (s.setFlag f).woken) = true ∧
    (s.setFlag .busDone).woken = false :=
  ⟨⟨rfl, .inl rfl⟩, rfl, by decide, by decide, by decide⟩
/-- Each of the six waits. -/
theorem witness_WaitWithoutCompletionHangs :
    let s (p : CtlPhase) : State := { sending p .key with schedule := [] }
    let h (c : CmdPos) : State := { inDetent c with schedule := [] }
    (s .waitStarted).refused = none ∧ (s .waitStarted).schedule = [] ∧ (s .waitStarted).cfg.SETUP_ABORTS = false ∧
    (s .waitStarted).flag .ep0Started = false ∧ (s .waitEnded).flag .ep0Ended = false ∧
    (s .waitDataDone).flag .ep0DataDone = false ∧ (h .inStarted).atHook = some .detent ∧
    (h .inStarted).flag .epInStarted = false ∧ (h .inEnded).flag .epInEnded = false ∧
    (h (.busWait .caller)).flag .busDone = false ∧
    State.atHook { h (.busWait .collect) with seq_state := .boot 3 } = some .boot := by decide
theorem witness_PowerServiceStartsTheLink :
    (running .usbPower).sqMoves [] ∧ (running .usbPower).seq_state = .run .usbPower := ⟨⟨rfl, .inl rfl⟩, rfl⟩

theorem witness_HooksLeaveTheRestAlone :
    (running .epOut).sqMoves [] ∧ (running .epOut).atHook = some .epOut ∧ (∃ t, step (running .epOut) = .next t) ∧
    (running .key).atHook = some .key ∧ (∃ t, step (running .key) = .next t) ∧
    (inDetent .collect).atHook = some .detent ∧ (∃ t, step (inDetent .collect) = .next t) ∧
    State.reset.atHook = some .boot ∧ (∃ t, step State.reset = .next t) :=
  ⟨⟨rfl, .inl rfl⟩, rfl, ⟨_, rfl⟩, rfl, ⟨_, rfl⟩, rfl, ⟨_, rfl⟩, rfl, ⟨_, rfl⟩⟩
/-- Each of the two hooks issues its command, ends in one step once it is out, and is refused an end before it; and a
forbidden command of each kind. -/
theorem witness_HooksEndOnlyWhenDone :
    let d : State := { inDetent .idle with oracle := [.done] }
    (running .epOut).sqMoves [] ∧ (inDetent .idle).sqMoves [] ∧
    field (step { running .epOut with hook_armed := true }) (·.seq_state) = some (.poll .key) ∧
    field (step { inDetent .idle with hook_sent := true }) (·.seq_state) = some .sleep ∧
    field (step (running .epOut)) (fun t => (t.emitted, t.hook_armed)) = some ([.epOutArm], true) ∧
    field (step { inDetent .idle with oracle := [.cmd (.sendIn #v[1, 2, 3, 4, 5])] })
      (fun t => (t.emitted, t.hook_sent)) = some ([.epInStart .epIn [1, 2, 3, 4, 5]], true) ∧
    refusal (step d) = some (.hookContract .detent) ∧
    forbiddenCommand .detent .armOut d ∧ forbiddenCommand .epOut (.sendIn #v[1, 2, 3, 4, 5]) (running .epOut) ∧
    forbiddenCommand .epOut (.xfer 0) { running .epOut with hook_armed := true } ∧
    forbiddenCommand .key (.sendIn #v[1, 2, 3, 4, 5]) { running .key with hook_sent := true } :=
  ⟨⟨rfl, .inl rfl⟩, ⟨rfl, .inl rfl⟩, by decide, by decide, by decide, by decide, by decide, .inl ⟨rfl, by decide⟩,
    .inr (.inl ⟨⟨_, rfl⟩, .inr rfl⟩), .inr (.inr (.inl ⟨rfl, rfl⟩)), .inr (.inr (.inr ⟨⟨_, rfl⟩, rfl⟩))⟩
theorem witness_BootEndsInSleep :
    let s : State := { State.reset with oracle := [.done] }
    s.sqMoves [] ∧ s.seq_state = .boot 0 ∧ s.cmd = .idle ∧ s.oracle = .done :: [] :=
  ⟨⟨rfl, .inr ⟨rfl, rfl⟩⟩, rfl, rfl, rfl⟩

/-- The duty of every event is met at once; a phase one place on, and one two places on. -/
theorem witness_EventsDoWhatTheTableSays :
    (∀ e, (awaiting e).envMoves e []) ∧ (awaiting .key).link_started = true ∧
    EpStage.started ∈ (awaiting .key).ep0_owed ∧ EpStage.ended ∈ (awaiting .key).ep0_owed ∧
    EpStage.dataDone ∈ (awaiting .key).ep0_owed ∧ EpStage.started ∈ (awaiting .key).epin_owed ∧
    EpStage.ended ∈ (awaiting .key).epin_owed ∧ (awaiting .key).configured = true ∧
    (awaiting .key).out_armed = true ∧ (awaiting .key).bus_busy = true ∧
    phasePulse (awaiting .key).cfg.ROT_DIR (awaiting .key).rot_phase ⟨false, true⟩ = some .plus ∧
    phasePulse (awaiting .key).cfg.ROT_DIR (awaiting .key).rot_phase ⟨true, true⟩ = none :=
  ⟨fun _ => ⟨rfl, rfl⟩, by decide⟩
/-- Every clause: an event whose duty is not met. -/
theorem witness_EventsOutsideTheirDutyAreRefused :
    let s (e : EnvEvent) : State := { booted with schedule := [.env e] }
    let t (e : EnvEvent) (o i : List EpStage) : State := { awaiting e with ep0_owed := o, epin_owed := i }
    (∀ e, (s e).envMoves e []) ∧ (∀ e o i, (t e o i).envMoves e []) ∧
    (s .key).link_started = false ∧ (s .key).configured = false ∧
    State.out_armed { s .key with configured := true } = false ∧ (s .key).bus_busy = false ∧
    EpStage.started ∉ (t .key [.ended] []).ep0_owed ∧ EpStage.ended ∉ (t .key [.started] []).ep0_owed ∧
    EpStage.dataDone ∉ (t .key [.ended] []).ep0_owed ∧ EpStage.started ∉ (t .key [] [.ended]).epin_owed ∧
    EpStage.ended ∉ (t .key [] [.started]).epin_owed :=
  ⟨fun _ => ⟨rfl, rfl⟩, fun _ _ _ => ⟨rfl, rfl⟩, by decide⟩
theorem witness_ResetSetsEveryRegister :
    let s (chip : Bool) : State := { running .key with
      oracle := [.cmd (.xfer 0x2105), .done, .done], schedule := [.reset .zero chip] }
    (∀ chip, (s chip).schedule = .reset .zero chip :: []) ∧ (s true).atHook = some .key ∧
    (s true).oracle = [HookCmd.xfer 0x2105].map .cmd ++ .done :: [.done] ∧ (running .setup).atHook = none := by decide
/-- R340, R342: after the refused command of one boot, a reset gives the next boot a sequence of its own, which ends in
SLEEP. -/
theorem test_reset_abandons_hook :
    (runPorts 3 { deaf with
      seq_state := .boot 0
      oracle := [.cmd (.xfer 0x2105), .cmd (.xfer 0x2106), .done, .done]
      schedule := [.sq false, .reset .zero true, .sq false] }).map (fun r => (r.2.seq_state, r.2.oracle)) =
    some (.sleep, []) := by decide

theorem linked_inv : linked.Inv := by
  constructor <;> simp [linked, booted, State.reset, State.atReset, State.flag, Flags.get]
theorem witness_StepKeepsTheInvariant : linked.Inv ∧ ∃ t, step linked = .next t := ⟨linked_inv, _, rfl⟩
theorem witness_StepKeepsEp0Ownership :
    let s : State := { linked with
      seq_state := .run .setup, ctl_state := .dataIn, ctl_phase := .waitStarted, ep0_owed := [.started]
      schedule := [.env (.epStarted .ep0)] }
    s.cfg.SETUP_ABORTS = false ∧ s.ep0Owned ∧ ∃ t, step s = .next t :=
  ⟨rfl, .inl ⟨rfl, rfl⟩, _, rfl⟩
theorem witness_NoStepLeavesItsBuffers : linked.Inv ∧ ∃ t, step linked = .next t := ⟨linked_inv, _, rfl⟩
/-- A step of a state in which every one of the bits is set. -/
theorem witness_StickyBitsStaySet :
    let s : State := { linked with configured := true, fault_led := true, schedule := [.sq false] }
    (∃ t, step s = .next t) ∧ s.configured = true ∧ s.link_started = true ∧ s.fault_led = true ∧
    ∀ u chip rest, s.schedule ≠ .reset u chip :: rest :=
  ⟨⟨_, rfl⟩, rfl, rfl, rfl, by simp⟩
/-- An unknown address with a reset to come, and with none; a refused state at a turn that passes, at its reset, and at the
end of its schedule. -/
theorem witness_RefusedStateIsLeftOnlyByReset :
    let s (l : List Turn) : State := { deaf with
      seq_state := .run .key, oracle := [.cmd (.xfer 0x2105)], schedule := .sq false :: l }
    let r (l : List Turn) : State := { s [] with refused := some (.busUnknownAddr 0x2105), schedule := l }
    (∀ l, (s l).sqMoves l) ∧ (s []).atHook = some .key ∧ (s []).cmd = .idle ∧
    ¬ forbiddenCommand .key (.xfer 0x2105) (s []) ∧
    (s []).cfg.BUS_ADDR_SET[((0x2105 : Half).extractLsb' 8 7).toNat]'(BitVec.isLt _) = false ∧
    field (step (s [.env .key, .reset .zero true])) (·.refused) = some (some (.busUnknownAddr 0x2105)) ∧
    refusal (step (s [.env .key])) = some (.busUnknownAddr 0x2105) ∧
    field (step (r [.env .key, .reset .zero true])) (fun t => (t.flag .key, t.schedule.length)) = some (false, 1) ∧
    field (step (r [.reset .zero true])) (fun t => (t.refused, t.seq_state)) = some (none, .boot 0) ∧
    refusal (step (r [.env .key])) = some (.busUnknownAddr 0x2105) ∧
    refusal (step (r [])) = some (.busUnknownAddr 0x2105) :=
  ⟨fun _ => ⟨rfl, .inl rfl⟩, rfl, rfl, by simp [forbiddenCommand], by decide, by decide, by decide, by decide,
    by decide, by decide, by decide⟩

end Sys2Proof.Tests
end

section
/-! PROOFS. The scope's statement about the refused state (00_scope.md R11): what a hook's next command is, how a refusal met
there settles, and that a refused state waits for its reset. -/

namespace Sys2Proof.Machine

/-! ### A reset among the turns to come -/

theorem Turn.isReset_iff {tn : Turn} : tn.isReset = true ↔ ∃ u chip, tn = .reset u chip := by
  cases tn <;> simp [Turn.isReset]

theorem any_isReset_iff {rest : List Turn} : rest.any Turn.isReset = true ↔ ∃ u chip, .reset u chip ∈ rest := by
  simp only [List.any_eq_true, Turn.isReset_iff]
  constructor
  · rintro ⟨_, hm, u, chip, rfl⟩
    exact ⟨u, chip, hm⟩
  · rintro ⟨u, chip, hm⟩
    exact ⟨_, hm, u, chip, rfl⟩

theorem any_isReset_eq_false {rest : List Turn} (h : ∀ u chip, .reset u chip ∉ rest) :
    rest.any Turn.isReset = false := by
  rw [← Bool.not_eq_true, any_isReset_iff]
  rintro ⟨u, chip, hm⟩
  exact h u chip hm

/-- What a refusal after a turn comes to, by whether a reset is among the turns that remain (R11, R340). -/
theorem State.passed_refuse (s : State) (rest : List Turn) (r : Refusal) :
    ((∃ u chip, .reset u chip ∈ rest) → (s.passed rest).refuse r = .next { s.passed rest with refused := some r }) ∧
    ((∀ u chip, .reset u chip ∉ rest) → (s.passed rest).refuse r = .refused r) :=
  ⟨fun h => State.refuse_marks r (any_isReset_iff.mpr h), fun h => State.refuse_ends r (any_isReset_eq_false h)⟩

/-- A refusal of class REFUSE settles as the refused state does (R301). -/
theorem State.settle_refuse (s : State) {r : Refusal} (hc : r.outcomeClass = some .refuse) :
    s.settle (.refused r) = s.refuse r := if_pos hc

/-- A refused state keeps its reason when a turn passes. -/
theorem State.passed_marked {s : State} {r : Refusal} (hr : s.refused = some r) (rest : List Turn) :
    { s.passed rest with refused := some r } = s.passed rest := by
  rw [← hr]
  rfl

/-! ### A hook's next command -/

/-- The commands the contract of R306 lets a hook issue are those it does not forbid. -/
theorem hookMay_cmd_iff {h : Hook} {c : HookCmd} {s : State} :
    hookMay h (.cmd c) s = true ↔ ¬ forbiddenCommand h c s := by
  cases h <;> cases c <;> simp [hookMay, forbiddenCommand]

theorem nextHookStep_cons {h : Hook} {s : State} {a : HookStep} {orest : List HookStep} (ho : s.oracle = a :: orest) :
    nextHookStep h s = (a, { s with oracle := orest }) := by
  rw [nextHookStep, ho]

/-- A hook whose list has a command next that its contract allows performs it (R306). -/
theorem hookFetch_cmd {h : Hook} {c : HookCmd} {s : State} {orest : List HookStep} (ho : s.oracle = .cmd c :: orest)
    (hf : ¬ forbiddenCommand h c s) :
    hookFetch h s = exec c.instr (State.noteCmd c { s with oracle := orest }) := by
  rw [hookFetch, nextHookStep_cons ho, if_pos (hookMay_cmd_iff.mpr hf)]

/-- A hook between two commands takes the next entry of its list (R50). -/
theorem hookStep_idle {h : Hook} {s : State} (hc : s.cmd = .idle) : hookStep h s = some (hookFetch h s) := by
  rw [hookStep, hc]

/-- A hook's step that is refused is SQ's, in boot too. -/
theorem sqMain_of_hookStep_refused {s : State} {h : Hook} {r : Refusal} (hh : s.atHook = some h)
    (hs : hookStep h s = some (.refused r)) : sqMain s = some (.refused r) := by
  rcases sqMain_atHook hh with ⟨n, -, rfl, hm⟩ | ⟨-, hm⟩
  · rw [hm, bootStep, hs, Option.map_some, afterNext_refused]
  · rw [hm, hs]

/-- XFER to an unknown address is refused before the bus is looked at (R143, assumption 17). -/
theorem exec_xfer_unknown {w : Half} {s : State} (ha : knowsAddr s.cfg (busAddr w) = false) :
    exec (.xfer w) s = .refused (.busUnknownAddr w) := startXfer_unknown ha

/-- The step of a hook whose next command is an XFER to an unknown address (R143, R301). -/
theorem step_hook_xfer_unknown {s : State} {rest : List Turn} {h : Hook} {w : Half} {orest : List HookStep}
    (hq : s.sqMoves rest) (hh : s.atHook = some h) (hc : s.cmd = .idle) (ho : s.oracle = .cmd (.xfer w) :: orest)
    (hf : ¬ forbiddenCommand h (.xfer w) s) (ha : knowsAddr s.cfg (busAddr w) = false) :
    step s = (s.passed rest).refuse (.busUnknownAddr w) := by
  have hs : hookStep h (s.sqTurn rest) = some (.refused (.busUnknownAddr w)) := by
    rw [hookStep_idle (s := s.sqTurn rest) hc, hookFetch_cmd (s := s.sqTurn rest) ho hf]
    exact congrArg some (exec_xfer_unknown ha)
  rw [step_of_sqMain hq (sqMain_of_hookStep_refused hh hs), State.settle_refuse _ rfl]

/-! ### The steps of a refused state -/

/-- With no turn left a refused state has no step (R301). -/
theorem step_refused_nil {s : State} {r : Refusal} (hr : s.refused = some r) (h : s.schedule = []) :
    step s = .refused r := by
  rw [step_nil h, State.passed_attempt_of_some _ hr]
  exact State.refuse_ends r rfl

/-- A turn of a refused state that is no reset passes, or ends the run (R301). -/
theorem step_refused_turn {s : State} {r : Refusal} {tn : Turn} {rest : List Turn} (hr : s.refused = some r)
    (h : s.schedule = tn :: rest) (ht : ∀ u chip, tn ≠ .reset u chip) :
    ((∃ u chip, .reset u chip ∈ rest) → step s = .next (s.passed rest)) ∧
    ((∀ u chip, .reset u chip ∉ rest) → step s = .refused r) := by
  have hn : tn.isReset = false := by
    rw [← Bool.not_eq_true, Turn.isReset_iff]
    rintro ⟨u, chip, rfl⟩
    exact ht u chip rfl
  have hp := State.passed_refuse s rest r
  rw [State.passed_marked hr] at hp
  rwa [step_refused hr h hn]

/-- A reset turn resets, whatever the state (R340). -/
theorem step_reset {s : State} {u : Unspecified} {chip : Bool} {rest : List Turn}
    (h : s.schedule = .reset u chip :: rest) : step s = .next ((s.passed rest).hardReset u chip) := by
  rw [step_cons h, turnStep]

/-- Settles O60: the refused XFER comes to `refuse`, and a refused state's turns to `refuse` or to the reset. -/
theorem refusedStateIsLeftOnlyByReset : Obligations.RefusedStateIsLeftOnlyByReset := by
  constructor
  · intro s rest h w orest hq hh hc ho hf ha
    rw [step_hook_xfer_unknown hq hh hc ho hf ha]
    exact State.passed_refuse s rest (.busUnknownAddr w)
  · intro s r hr
    refine ⟨step_refused_nil hr, fun tn rest hs ht => step_refused_turn hr hs ht, fun u chip rest hs => ?_⟩
    exact ⟨_, step_reset hs, rfl, rfl, rfl⟩

end Sys2Proof.Machine
end

section
/-! PROOFS. The state's invariant (10_state.md R42): what each kind of update of the state keeps of it. -/

namespace Sys2Proof.Machine

variable {s t : State}

/-! ### What the invariant says where SQ stands -/

/-- Outside service 2 no transfer is in progress (R202). -/
theorem State.Inv.quiet (h : s.Inv) (hq : s.seq_state ≠ .run .setup) : s.ctl_state = .idle ∨ s.ctl_state = .stalled := by
  by_contra hn
  rw [not_or] at hn
  exact hq (h.transfer hn.1 hn.2)

/-- Service 2 runs only after the link is started (R31). -/
theorem State.Inv.linked (h : s.Inv) (hq : s.seq_state = .run .setup) : s.link_started = true :=
  h.linkFirst (.inr (.inl hq))

/-- No transaction is in flight where SQ does not wait for one (R140). -/
theorem State.Inv.notBusy (h : s.Inv) (hc : ∀ after, s.cmd ≠ .busWait after) : s.bus_busy = false := by
  rw [← Bool.not_eq_true]
  intro hb
  obtain ⟨after, ha⟩ := h.busOwner hb
  exact hc after ha

/-! ### Flags -/

/-- Clearing a flag keeps the invariant. -/
theorem State.Inv.clearFlag (h : s.Inv) (f : Flag) : (s.clearFlag f).Inv := by
  have hset : ∀ g, (s.clearFlag f).flag g = true → s.flag g = true := by
    intro g hg
    rw [State.flag_clearFlag] at hg
    split at hg
    · cases hg
    · exact hg
  exact { h with
    busDone := fun hb => by
      rw [State.flag_clearFlag, h.busDone hb, ite_self]
    outConfigured := fun ho => h.outConfigured (ho.imp_right (Or.imp_left (hset _)))
    linkFirst := fun hl => h.linkFirst (hl.imp_left (hset _)) }

/-- Setting a flag keeps the invariant when the flag's event was in its duty (R31, R49). -/
theorem State.Inv.setFlag (h : s.Inv) {f : Flag} (hs : f = .setup → s.link_started = true)
    (ho : f = .epOut → s.configured = true) (hb : f = .busDone → s.bus_busy = false) : (s.setFlag f).Inv := by
  have hset : ∀ g, (s.setFlag f).flag g = true → g = f ∨ s.flag g = true := by
    intro g hg
    rw [State.flag_setFlag] at hg
    split at hg
    · next he => exact .inl he
    · exact .inr hg
  refine { h with busDone := ?_, outConfigured := ?_, linkFirst := ?_ }
  · intro hbusy
    rw [State.flag_setFlag, if_neg, h.busDone hbusy]
    rintro rfl
    exact absurd hbusy (by simp [hb rfl])
  · rintro (ha | he | hq)
    · exact h.outConfigured (.inl ha)
    · rcases hset _ he with hf | he
      · exact ho hf.symm
      · exact h.outConfigured (.inr (.inl he))
    · exact h.outConfigured (.inr (.inr hq))
  · rintro (he | hrest)
    · rcases hset _ he with hf | he
      · exact hs hf.symm
      · exact h.linkFirst (.inl he)
    · exact h.linkFirst (.inr hrest)

/-! ### Registers -/

/-- SQ may go to `q`: no transfer is left behind, and what the services of `q` stand for has come about. -/
theorem State.Inv.goTo (h : s.Inv) {q : SeqState}
    (hc : q = .run .setup ∨ s.ctl_state = .idle ∨ s.ctl_state = .stalled)
    (ho : q = .run .epOut → s.configured = true) (hl : q = .run .setup → s.link_started = true) :
    State.Inv { s with seq_state := q } :=
  { h with
    transfer := fun hi hs => hc.resolve_right (not_or.mpr ⟨hi, hs⟩)
    outConfigured := by
      rintro (ha | hf | hq)
      · exact h.outConfigured (.inl ha)
      · exact h.outConfigured (.inr (.inl hf))
      · exact ho hq
    linkFirst := by
      rintro (hf | hq | hr)
      · exact h.linkFirst (.inl hf)
      · exact hl hq
      · exact h.linkFirst (.inr (.inr hr)) }

/-- SQ may go to a place outside the services when no transfer is in progress (R304). -/
theorem State.Inv.leave (h : s.Inv) {q : SeqState} (hc : s.ctl_state = .idle ∨ s.ctl_state = .stalled)
    (hq : ∀ k, q ≠ .run k) : State.Inv { s with seq_state := q } :=
  h.goTo (.inr hc) (fun he => absurd he (hq _)) (fun he => absurd he (hq _))

/-- A transfer may go to a state that no reply belongs to (R200). -/
theorem State.Inv.setCtl (h : s.Inv) {c : CtlState} (hq : s.seq_state = .run .setup) (hd : c ≠ .setupDecoded)
    (hi : c ≠ .dataIn) : State.Inv { s with ctl_state := c } :=
  { h with
    decoded := fun he => absurd he hd
    transfer := fun _ _ => hq
    reply := fun he => absurd he hi
    packet := fun he => absurd he hi
    linkFirst := fun _ => h.linked hq }

/-- A FAULT that is not BUS_BUSY may be logged (R301). -/
theorem State.Inv.raise (h : s.Inv) {e : LogEntry} (hs : e.isStall = false) (hb : e.isBusBusy = false) :
    (s.raise e).Inv :=
  { h with
    led := by simp [h.led, hs]
    noBusBusy := by simp [h.noBusBusy, hb] }

/-- A stall in service 2 (R240). -/
theorem State.Inv.stall (h : s.Inv) (hq : s.seq_state = .run .setup) {c : LogEntry} (hc : c.isStall = true) :
    (s.stall c).Inv :=
  have hb : c.isBusBusy = false := by
    cases c with
    | busBusy w => cases hc
    | _ => rfl
  { h.setCtl (c := .stalled) hq (by decide) (by decide) with
    led := by simp [hc]
    noBusBusy := by simp [h.noBusBusy, hb] }

/-- The mark of a refused state (R11, R143). -/
theorem State.Inv.mark (h : s.Inv) {r : Refusal} (hr : ∃ w, r = .busUnknownAddr w) :
    State.Inv { s with refused := some r } :=
  { h with refusal := fun _ he => (Option.some.inj he) ▸ hr }

end Sys2Proof.Machine
end

section
/-! PROOFS. Every move of SQ and every event keeps the invariant, one lemma per kind of move of Laws/Moves. -/

namespace Sys2Proof.Machine

variable {s t : State}

/-! ### Where SQ goes next -/

/-- No service follows a service but through its poll (R304). -/
theorem Service.after_ne_run (k j : Service) : k.after ≠ .run j := by
  cases k <;> exact nofun

/-- No service follows a hook but through its poll (R304, R342). -/
theorem Hook.after_ne_run (h : Hook) (j : Service) : h.after ≠ .run j := by
  cases h <;> exact nofun

theorem State.Inv.serviceReturn (h : s.Inv) : s.serviceReturn.Inv := by
  unfold State.serviceReturn
  split
  · next hc => exact h.leave (.inl hc) (Service.after_ne_run _)
  · next hc => exact h.leave (.inr hc) (Service.after_ne_run _)
  all_goals exact h

theorem State.Inv.bootAdvance (h : s.Inv) (n : Nat) : (s.bootAdvance n).Inv := by
  unfold State.bootAdvance
  split
  · next hb => exact h.leave (h.quiet (by simp [hb.1])) (fun _ => by simp)
  · exact h

theorem State.Inv.detentOrReturn (h : s.Inv) (hq : s.seq_state = .run .rotary) : s.detentOrReturn.Inv := by
  unfold State.detentOrReturn
  split
  · exact h.leave (h.quiet (by simp [hq])) (Service.after_ne_run _)
  · exact { h with }

/-! ### Service 2 -/

/-- A reply (R212, R252). -/
theorem State.Inv.replyFrom (h : s.Inv) (hq : s.seq_state = .run .setup) (hc : s.ctl_state = .setupDecoded)
    (id : DescId) (l : Half) : (replyFrom id l s).Inv := by
  by_cases hl : replyLen (descRom s.cfg id).length l = 0
  · rw [replyFrom_empty hl]
    exact { h.setCtl (c := .status) hq (by decide) (by decide) with
      replyOff := by simp [h.decoded hc], reply := nofun, packet := nofun }
  · rw [replyFrom_data hl]
    exact { h with
      replyOff := Nat.zero_le _
      decoded := fun _ => rfl
      transfer := fun _ _ => hq
      reply := fun _ => ⟨id, rfl, replyLen_le _ _⟩
      packet := fun _ hp => absurd rfl hp
      linkFirst := fun _ => h.linked hq }

/-- Performing a request (R220 to R224, R252 to R259). -/
theorem RequestMove.inv (m : RequestMove s t) (h : s.Inv) (hq : s.seq_state = .run .setup)
    (hc : s.ctl_state = .setupDecoded) : t.Inv := by
  cases m with
  | acknowledged => exact h.setCtl hq (by decide) (by decide)
  | configured =>
    exact { h.setCtl (c := .status) hq (by decide) (by decide) with
      outConfigured := fun _ => rfl, linkFirst := fun _ => h.linked hq }
  | stalled c hs => exact h.stall hq hs
  | replied id l => exact h.replyFrom hq hc id l

/-- The decode of the latch (R206). -/
theorem State.Inv.decodeLatch (h : s.Inv) (hq : s.seq_state = .run .setup) : s.decodeLatch.Inv :=
  { h with
    replyOff := Nat.le_refl _
    decoded := fun _ => rfl
    transfer := fun _ _ => hq
    reply := nofun
    packet := nofun
    linkFirst := fun _ => h.linked hq }

theorem packetSize_le (len off : Half) : packetSize len off ≤ 64 := Nat.min_le_left _ _

theorem packetSize_le_rest (len off : Half) : packetSize len off ≤ len.toNat - off.toNat := Nat.min_le_right _ _

/-- A packet staged lies inside the reply (R213). -/
theorem State.Inv.staged (h : s.Inv) {n : Nat}
    (hn : n = packetSize s.reply_len s.reply_off) :
    State.Inv { s with ep0_len := BitVec.ofNat 7 n, ctl_phase := .waitStarted } := by
  have h64 := packetSize_le s.reply_len s.reply_off
  have hrest := packetSize_le_rest s.reply_len s.reply_off
  have hlen : (BitVec.ofNat 7 n).toNat = n := by
    rw [BitVec.toNat_ofNat]
    omega
  have hoff := h.replyOff
  exact { h with
    ep0Len := by
      show (BitVec.ofNat 7 n).toNat ≤ 64
      omega
    packet := fun _ _ => by
      show s.reply_off.toNat + (BitVec.ofNat 7 n).toNat ≤ s.reply_len.toNat
      omega }

/-- The end of a packet counts its bytes as sent, without a wrap of the offset (R216). -/
theorem State.Inv.sent (h : s.Inv) (hc : s.ctl_state = .dataIn) (hp : s.ctl_phase ≠ .stage) :
    (s.reply_off + s.ep0_len.setWidth 16).toNat ≤ s.reply_len.toNat := by
  have hin := h.packet hc hp
  have hlt := s.reply_len.isLt
  rw [BitVec.toNat_add, BitVec.toNat_setWidth]
  omega

/-- What follows the last wait of a packet (R216). -/
theorem State.Inv.packetDone (h : s.Inv) (hq : s.seq_state = .run .setup) (hc : s.ctl_state = .dataIn)
    (hp : s.ctl_phase ≠ .stage) : s.packetDone.Inv := by
  have hsent := h.sent hc hp
  have hdec : s.ctl_state ≠ .setupDecoded := by simp [hc]
  have hstage : ∀ z, State.Inv { s with
      reply_off := s.reply_off + s.ep0_len.setWidth 16, zlp_pending := z, ctl_phase := .stage } := fun _ =>
    { h with replyOff := hsent, decoded := fun he => absurd he hdec, packet := fun _ hs => absurd rfl hs }
  unfold State.packetDone
  simp only
  split
  · exact hstage s.zlp_pending
  split
  · exact hstage false
  · exact { h.setCtl (c := .status) hq (by decide) (by decide) with
      replyOff := hsent, decoded := nofun, packet := nofun }

/-! ### Hooks -/

theorem State.Inv.asked (h : s.Inv) (o : List HookStep) (d : Nat) : (s.asked o d).Inv := { h with }

/-- A transaction starts only on an idle bus, and is then SQ's to wait for (R140, R145). -/
theorem XferMove.inv {after : AfterXfer} (m : XferMove after s t) (h : s.Inv) (hc : ∀ a, s.cmd ≠ .busWait a) :
    t.Inv := by
  have hidle := h.notBusy hc
  cases m with
  | busy w d hb => rw [hidle] at hb; cases hb
  | started w _ _ => exact { h.clearFlag .busDone with busOwner := fun _ => ⟨after, rfl⟩, busDone := fun _ => rfl }

/-- A step of a hook outside service 2, whose `ARM_OUT` is service 3's (R306). -/
theorem HookMove.inv {k : Hook} (m : HookMove k s t) (h : s.Inv) (hq : s.seq_state ≠ .run .setup)
    (hk : k = .epOut → s.seq_state = .run .epOut) : t.Inv := by
  cases m with
  | done o d hc hm => exact (h.asked o d).leave (h.quiet hq) (Hook.after_ne_run k)
  | xfer o d after t hc hx => exact hx.inv (h.asked o d) (fun a => by simp [State.asked, hc])
  | collect t hc hx => exact hx.inv h (by simp [hc])
  | sendIn o d r hl hc hm =>
    have hidle := h.notBusy (by simp [hc])
    exact { (h.clearFlag .epInStarted).clearFlag .epInEnded with
      busOwner := fun hb => absurd hb (by simp [State.asked, hidle]) }
  | armOut o d hc hm =>
    have hep : k = .epOut := by
      by_contra hne
      exact hookMay_cmd_iff.mp hm (.inl ⟨rfl, hne⟩)
    exact { h with outConfigured := fun _ => h.outConfigured (.inr (.inr (hk hep))) }
  | busDone after hc hf =>
    exact { h.clearFlag .busDone with busOwner := fun hb => absurd (h.busDone hb) (by simp [hf]) }
  | inStarted hc hf =>
    have hidle := h.notBusy (by simp [hc])
    exact { h.clearFlag .epInStarted with busOwner := fun hb => absurd hb (by simp [hidle]) }
  | inEnded hc hf =>
    have hidle := h.notBusy (by simp [hc])
    exact { h.clearFlag .epInEnded with busOwner := fun hb => absurd hb (by simp [hidle]) }

/-! ### The rotary accumulator -/

/-- What Accumulate can do: a remainder in -3..3 stays, or the overflow is logged (R173, R174). -/
theorem execRotAccumulate_cases {p : I32} (he : execRotAccumulate p s = .next t) :
    (∃ acc q : I32, -3 ≤ acc.toInt ∧ acc.toInt ≤ 3 ∧ t = { s with rot_acc := acc, ret_indents := q }) ∨
      t = { s.raise (.accOverflow s.rot_acc p) with ret_indents := 0 } := by
  cases hf : fitsI32 (s.rot_acc.toInt + p.toInt) with
  | true =>
    rw [execRotAccumulate_fits hf] at he
    obtain ⟨hlo, hhi, -, -⟩ := truncDiv_four (s.rot_acc.toInt + p.toInt)
    have hrem : fitsI32 (s.rot_acc.toInt + p.toInt -
        PULSES_PER_DETENT * truncDiv (s.rot_acc.toInt + p.toInt) PULSES_PER_DETENT) = true := by
      rw [fitsI32_iff]
      unfold PULSES_PER_DETENT
      omega
    refine .inl ⟨_, _, ?_, ?_, (Host.Outcome.next.inj he).symm⟩ <;> rw [toInt_ofInt_of_fits hrem]
    · exact hlo
    · exact hhi
  | false =>
    rw [execRotAccumulate_overflow hf] at he
    exact .inr (Host.Outcome.next.inj he).symm

theorem execRotAccumulate_inv {p : I32} (he : execRotAccumulate p s = .next t) (h : s.Inv) : t.Inv := by
  rcases execRotAccumulate_cases he with ⟨acc, q, hlo, hhi, rfl⟩ | rfl
  · exact { h with acc := ⟨hlo, hhi⟩ }
  · exact { h.raise rfl rfl with }

theorem execRotAccumulate_seq_state {p : I32} (he : execRotAccumulate p s = .next t) : t.seq_state = s.seq_state := by
  rcases execRotAccumulate_cases he with ⟨acc, q, -, -, rfl⟩ | rfl <;> rfl

/-! ### SQ -/

/-- Every move of SQ keeps the invariant. -/
theorem SqMove.inv (m : SqMove s t) (h : s.Inv) : t.Inv := by
  cases m with
  | boot n t hq hm => exact (hm.inv h (by simp [hq]) nofun).bootAdvance n
  | wake hq hw => exact h.leave (h.quiet (by simp [hq])) nofun
  | pollHit k hq hf =>
    have hgo := (h.clearFlag k.flag).goTo (q := .run k) (.inr (h.quiet (by simp [hq])))
      (fun he => h.outConfigured (.inr (.inl (by cases he; exact hf))))
      (fun he => h.linkFirst (.inl (by cases he; exact hf)))
    exact { hgo with }
  | pollMiss k hq hf =>
    have hgo := (h.clearFlag k.flag).leave (h.quiet (by simp [hq])) (Service.after_ne_run k)
    exact { hgo with }
  | link hq =>
    have hgo := h.leave (q := .poll .setup) (h.quiet (by simp [hq])) nofun
    exact { hgo with linkFirst := fun _ => rfl }
  | decode hq hc => exact h.decodeLatch hq
  | dispatch t hq hc he => exact ((exec_request_move he).inv h hq hc).serviceReturn
  | stage id bytes hl hq hc hp hi hr =>
    have hst := h.staged (memRead_length hr)
    exact { ((hst.clearFlag .ep0Started).clearFlag .ep0Ended).clearFlag .ep0DataDone with }
  | started hq hc hp hf =>
    exact { h.clearFlag .ep0Started with packet := fun _ _ => h.packet hc (by simp [hp]) }
  | ended hq hc hp hf =>
    exact { h.clearFlag .ep0Ended with packet := fun _ _ => h.packet hc (by simp [hp]) }
  | dataDone hq hc hp hf => exact (h.clearFlag .ep0DataDone).packetDone hq hc (by simp [hp])
  | status hq hc =>
    have hgo := (h.setCtl (c := .idle) hq (by decide) (by decide)).leave (q := .poll .epOut) (.inl rfl) nofun
    exact { hgo with }
  | hook k hk t hq hhk hm =>
    rcases hhk with ⟨rfl, rfl⟩ | ⟨rfl, rfl⟩ | ⟨rfl, rfl, -⟩
    · exact hm.inv h (by simp [hq]) (fun _ => hq)
    · exact hm.inv h (by simp [hq]) nofun
    · exact hm.inv h (by simp [hq]) nofun
  | sample hq hr => exact { h with }
  | accumulate t hq hr he =>
    exact (execRotAccumulate_inv he h).detentOrReturn (by rw [execRotAccumulate_seq_state he, hq])

/-- The abort step keeps the invariant (R207). -/
theorem State.Inv.abort (h : s.Inv) (hm : s.mayAbort = true) :
    (State.serviceReturn { s with ctl_state := .idle, ctl_phase := .stage }).Inv := by
  obtain ⟨-, -, hq, -, -⟩ := s.mayAbort_iff.mp hm
  exact State.Inv.serviceReturn { h.setCtl (c := .idle) hq (by decide) (by decide) with packet := nofun }

/-! ### The environment -/

/-- The data of an event keep the invariant (R49). -/
theorem State.Inv.envData (h : s.Inv) (e : EnvEvent) : (envData e s).Inv := by
  cases e with
  | epStarted ep => cases ep <;> exact { h with }
  | epEnded ep => cases ep <;> exact { h with }
  | epOut r => exact { h with outConfigured := fun ho => h.outConfigured (.inr (ho.resolve_left nofun)) }
  | busEnd rx => exact { h with busOwner := nofun, busDone := nofun }
  | busFrame miso => exact { h with busOwner := nofun, busDone := nofun }
  | _ => exact { h with }

/-- A pulse changes the counter or logs an overflow (R170). -/
theorem execRotPulse_inv {d : Pulse} (he : execRotPulse d s = .next t) (h : s.Inv) : t.Inv := by
  rcases execRotPulse_cases he with ht | rfl
  · rw [ht]
    exact { h with }
  · exact h.raise rfl rfl

/-- An event that is in its duty has what the meaning of its flag asks (R31, R49, R148). -/
theorem envMay_flagSet {e : EnvEvent} {f : Flag} (hm : envMay e s = true) (hi : envInstr e s = some (.flagSet f)) :
    (f = .setup → s.link_started = true) ∧ (f = .epOut → s.configured = true) ∧
      (f = .busDone → (envData e s).bus_busy = false) := by
  cases e with
  | epStarted ep => cases ep <;> cases hi <;> exact ⟨nofun, nofun, nofun⟩
  | epEnded ep => cases ep <;> cases hi <;> exact ⟨nofun, nofun, nofun⟩
  | setup p => cases hi; exact ⟨fun _ => hm, nofun, nofun⟩
  | epOut r =>
    cases hi
    simp only [envMay, Bool.and_eq_true] at hm
    exact ⟨nofun, fun _ => hm.1.2, nofun⟩
  | busEnd rx => cases hi; exact ⟨nofun, nofun, fun _ => rfl⟩
  | busFrame miso => cases hi; exact ⟨nofun, nofun, fun _ => rfl⟩
  | phase p => simp [envInstr] at hi
  | _ => cases hi <;> exact ⟨nofun, nofun, nofun⟩

/-- Every event keeps the invariant. -/
theorem envStep_inv {e : EnvEvent} (he : envStep e s = .next t) (h : s.Inv) : t.Inv := by
  have hd : State.Inv { envData e s with agent := .env } := { h.envData e with }
  obtain ⟨hm, ⟨f, hi, rfl⟩ | ⟨d, -, hp⟩ | ⟨-, rfl⟩⟩ := envStep_cases he
  · obtain ⟨hs, ho, hb⟩ := envMay_flagSet hm hi
    exact hd.setFlag (fun hf => by simpa using hs hf) (fun hf => by simpa using ho hf) hb
  · exact execRotPulse_inv hp hd
  · exact hd

end Sys2Proof.Machine
end

section
/-! PROOFS. Where a step can be refused from a state that meets the invariant (R11, R60, R125, R143), and from there that
every step keeps the invariant, which holds after a reset. -/

namespace Sys2Proof.Machine

variable {s t : State} {r : Refusal}

/-! ### What is never refused -/

theorem waitFlag_ne_refused {f : Flag} {k : State → State} : waitFlag f s k ≠ some (.refused r) := by
  intro h
  cases (waitFlag_eq_some h).2

/-- A poll is `TestAndClear` of the service's flag (R177, R304). -/
theorem exec_pollInstr (k : Service) (s : State) : exec k.pollInstr s = testAndClear k.flag s := by
  cases k <;> rfl

/-- SQ's polls are never refused: SQ may clear a flag (R125). -/
theorem pollStep_ne_refused {k : Service} (ha : s.agent = .sq) : pollStep k s ≠ .refused r := by
  rw [pollStep, exec_pollInstr, testAndClear_sq ha, afterNext_next]
  exact nofun

theorem dispatchStep_ne_refused : dispatchStep s ≠ .refused r := by
  obtain ⟨t, ht⟩ := exec_request_next s.req s
  rw [dispatchStep, ht, afterNext_next]
  exact nofun

/-- SQ's start of an EP0 transfer that fits its buffer is not refused (R60, R125). -/
theorem startEp0_ne_refused {bytes : List Byte} (ha : s.agent = .sq) (hl : bytes.length ≤ 64) :
    startEp0 bytes s ≠ .refused r := by
  rw [startEp0_next (by omega) ha]
  exact nofun

/-- The packet STAGE reads lies inside its entry, and fits EP0_BUF (R60, R213). -/
theorem stageStep_ne_refused (h : s.Inv) (ha : s.agent = .sq) (hc : s.ctl_state = .dataIn) :
    stageStep s ≠ .refused r := by
  obtain ⟨id, hsrc, hlen⟩ := h.reply hc
  have hoff := h.replyOff
  have h64 := packetSize_le s.reply_len s.reply_off
  have hrest := packetSize_le_rest s.reply_len s.reply_off
  have hread := memRead_eq (sp := .descRom id) (addr := s.reply_off.toNat) (n := packetSize s.reply_len s.reply_off)
    (s := s) (by simp only [spaceBytes]; omega)
  have hsize := memRead_length hread
  simp only [stageStep, hsrc, hread]
  exact startEp0_ne_refused ha (by omega)

/-- No step of the data stage is refused. -/
theorem dataStep_ne_refused (h : s.Inv) (ha : s.agent = .sq) (hc : s.ctl_state = .dataIn) :
    dataStep s ≠ some (.refused r) := by
  unfold dataStep
  split
  · exact fun he => stageStep_ne_refused h ha hc (Option.some.inj he)
  all_goals exact waitFlag_ne_refused

/-- No step of service 2 is refused (R200). -/
theorem ctlStep_ne_refused (h : s.Inv) (ha : s.agent = .sq) : ctlStep s ≠ some (.refused r) := by
  unfold ctlStep
  split
  · exact nofun
  · exact nofun
  · exact fun he => dispatchStep_ne_refused (Option.some.inj he)
  · next hc => exact dataStep_ne_refused h ha hc
  · exact nofun

theorem execRotAccumulate_ne_refused {p : I32} : execRotAccumulate p s ≠ .refused r := by
  cases hf : fitsI32 (s.rot_acc.toInt + p.toInt) with
  | true => rw [execRotAccumulate_fits hf]; exact nofun
  | false => rw [execRotAccumulate_overflow hf]; exact nofun

/-! ### What is refused -/

/-- The reasons a step of SQ can be refused for: an unknown bus address (R143), or a hook outside its contract (R306). -/
def Refusal.ofHook (r : Refusal) : Prop := (∃ w, r = .busUnknownAddr w) ∨ ∃ h, r = .hookContract h

theorem startXfer_refused_sq {after : AfterXfer} {w : Half} (ha : s.agent = .sq)
    (h : startXfer after w s = .refused r) : r.ofHook := by
  rcases startXfer_refused h with rfl | ⟨henv, -⟩
  · exact .inl ⟨w, rfl⟩
  · rw [ha] at henv
    cases henv

/-- A hook's command (R50) is refused for an unknown bus address only. -/
theorem exec_hookCmd_refused {c : HookCmd} (ha : s.agent = .sq) (h : exec c.instr s = .refused r) : r.ofHook := by
  cases c with
  | xfer w => exact startXfer_refused_sq ha h
  | message w =>
    simp only [HookCmd.instr, decodeBusWord] at h
    split at h <;> exact startXfer_refused_sq ha h
  | sendIn p =>
    have hn := startEpIn_next (bytes := p.toList) (by simp) ha
    rw [show exec (HookCmd.sendIn p).instr s = startEpIn p.toList s from rfl, hn] at h
    cases h
  | armOut => cases h

theorem State.noteCmd_agent (c : HookCmd) (s : State) : (s.noteCmd c).agent = s.agent := by
  cases c <;> rfl

theorem hookFetch_refused {k : Hook} (ha : s.agent = .sq) (h : hookFetch k s = .refused r) : r.ofHook := by
  unfold hookFetch at h
  split at h
  · split at h
    · obtain ⟨o, d, hn⟩ := nextHookStep_asked k s
      rw [hn] at h
      exact exec_hookCmd_refused (by rw [State.noteCmd_agent]; exact ha) h
    · cases h
  · cases h
    exact .inr ⟨k, rfl⟩

theorem hookStep_refused {k : Hook} (ha : s.agent = .sq) (h : hookStep k s = some (.refused r)) : r.ofHook := by
  unfold hookStep at h
  split at h
  · exact hookFetch_refused ha (Option.some.inj h)
  · exact startXfer_refused_sq ha (Option.some.inj h)
  all_goals exact absurd h waitFlag_ne_refused

theorem rotaryStep_refused (ha : s.agent = .sq) (h : rotaryStep s = some (.refused r)) : r.ofHook := by
  unfold rotaryStep at h
  split at h
  · cases h
  · exact absurd (afterNext_eq_refused (Option.some.inj h)) execRotAccumulate_ne_refused
  · exact hookStep_refused ha h

theorem bootStep_refused {n : Nat} (ha : s.agent = .sq) (h : bootStep n s = some (.refused r)) : r.ofHook := by
  unfold bootStep at h
  obtain ⟨o, ho, hr⟩ := Option.map_eq_some_iff.mp h
  rw [afterNext_eq_refused hr] at ho
  exact hookStep_refused ha ho

/-- From the invariant SQ's step is refused only for what a hook asks (R60, R125, R143, R306). -/
theorem sqMain_refused (hi : s.Inv) (ha : s.agent = .sq) (h : sqMain s = some (.refused r)) : r.ofHook := by
  unfold sqMain at h
  split at h
  · exact bootStep_refused ha h
  · split at h <;> cases h
  · exact absurd (Option.some.inj h) (pollStep_ne_refused ha)
  · next k hq =>
    cases k with
    | usbPower => cases h
    | setup => exact absurd h (ctlStep_ne_refused hi ha)
    | epOut => exact hookStep_refused ha h
    | key => exact hookStep_refused ha h
    | rotary => exact rotaryStep_refused ha h

theorem sqStep_refused {a : Bool} (hi : s.Inv) (h : sqStep a s = some (.refused r)) : r.ofHook := by
  rcases sqStep_cases h with ⟨-, ho⟩ | hm
  · cases ho
  · exact sqMain_refused (s := { s with agent := .sq }) { hi with } rfl hm

theorem execRotPulse_next (d : Pulse) (s : State) : ∃ t, execRotPulse d s = .next t := by
  unfold execRotPulse
  simp only
  split <;> exact ⟨_, rfl⟩

/-- The environment's operations are never refused: it sets flags, and moves the counter (R49, R125). -/
theorem exec_envInstr_next {e : EnvEvent} {i : Instr} (h : envInstr e s = some i) (ha : t.agent = .env) :
    ∃ u, exec i t = .next u := by
  have hset : ∀ f, ∃ u, exec (.flagSet f) t = .next u := fun f => ⟨t.setFlag f, if_pos ha⟩
  cases e with
  | epStarted ep => cases ep <;> cases h <;> exact hset _
  | epEnded ep => cases ep <;> cases h <;> exact hset _
  | pulse d => cases h; exact execRotPulse_next d t
  | phase p =>
    obtain ⟨d, -, rfl⟩ := Option.map_eq_some_iff.mp h
    exact execRotPulse_next d t
  | _ => cases h; exact hset _

/-- An event is refused only outside its duty (U21). -/
theorem envStep_refused {e : EnvEvent} (h : envStep e s = .refused r) : r = .envDuty e := by
  unfold envStep at h
  split at h
  · simp only at h
    split at h
    · next i hi =>
      obtain ⟨u, hu⟩ := exec_envInstr_next (t := { envData e s with agent := .env }) hi rfl
      rw [hu] at h
      cases h
    · cases h
  · exact (Host.Outcome.refused.inj h).symm

/-- From the invariant a state is marked refused for an unknown bus address only (R60, R125, R143). -/
theorem State.Inv.refusedBy (h : s.Inv) {rest : List Turn} (hr : s.refusedBy rest r) : ∃ w, r = .busUnknownAddr w := by
  rcases hr with hr | ⟨-, hclass, ⟨e, -, he⟩ | ⟨a, -, ha⟩⟩
  · exact h.refusal r hr
  · rw [envStep_refused he] at hclass
    cases hclass
  · have hp : (s.passed rest).Inv := { h with }
    rcases sqStep_refused hp ha with hw | ⟨k, rfl⟩
    · exact hw
    · cases hclass

/-! ### The obligations -/

/-- The invariant holds after a reset, whatever the parameters and the unspecified contents (R42, R43). -/
theorem State.atReset_inv (c : Config) (u : Unspecified) : (State.atReset c u).Inv where
  acc := by simp [State.atReset]
  ep0Len := Nat.zero_le _
  replyOff := Nat.le_refl _
  decoded := nofun
  led := rfl
  busOwner := nofun
  busDone := nofun
  noBusBusy := rfl
  transfer := fun hi => absurd rfl hi
  reply := nofun
  packet := nofun
  outConfigured := by simp [State.atReset, State.flag, Flags.get]
  linkFirst := by simp [State.atReset, State.flag, Flags.get]
  refusal := nofun

/-- Settles O55: the reset state in particular. -/
theorem resetMeetsTheInvariant : Obligations.ResetMeetsTheInvariant :=
  ⟨State.atReset_inv .defaults .zero, ⟨rfl, rfl⟩, State.atReset_inv⟩

/-- Settles O56: by the kind of the step, and for a step of SQ by its move. -/
theorem stepKeepsTheInvariant : Obligations.StepKeepsTheInvariant := by
  intro s t h hs
  rcases step_moves hs with ⟨u, chip, rest, -, rfl⟩ | ⟨e, rest, -, he⟩ | ⟨a, rest, -, -, hq⟩ | ⟨rest, -, -, rfl⟩ |
    ⟨tn, rest, r, -, -, -, hr, rfl⟩
  · exact { State.atReset_inv s.cfg u with }
  · exact envStep_inv he { h with }
  · have hsq : (s.sqTurn rest).Inv := { h with }
    rcases hq with ⟨hm, rfl⟩ | hm
    · exact hsq.abort hm
    · exact hm.inv hsq
  · exact { h with }
  · exact State.Inv.mark (s := s.passed rest) { h with } (h.refusedBy hr)

end Sys2Proof.Machine
end

section
/-! PROOFS. The sticky bits and the log (10_state.md R29, R31, R36, R37): only a reset clears them. -/

namespace Sys2Proof.Machine

variable {s t : State}

/-- What every step but a reset keeps from `s` to `t`: the three bits stay set, and the log is only appended to. -/
def State.Sticky (s t : State) : Prop :=
  (s.configured = true → t.configured = true) ∧ (s.link_started = true → t.link_started = true) ∧
    (s.fault_led = true → t.fault_led = true) ∧ ∃ more, t.fault_log = s.fault_log ++ more

/-- A step that writes none of the bits, and not the log. -/
theorem State.Sticky.frame (hc : t.configured = s.configured) (hl : t.link_started = s.link_started)
    (hf : t.fault_led = s.fault_led) (hg : t.fault_log = s.fault_log) : s.Sticky t := by
  simp [State.Sticky, hc, hl, hf, hg]

theorem State.Sticky.trans {u : State} (h : s.Sticky t) (h' : t.Sticky u) : s.Sticky u := by
  obtain ⟨hc, hl, hf, more, hg⟩ := h
  obtain ⟨hc', hl', hf', more', hg'⟩ := h'
  exact ⟨hc' ∘ hc, hl' ∘ hl, hf' ∘ hf, more ++ more', by rw [hg', hg, List.append_assoc]⟩

theorem State.sticky_stall (s : State) (c : LogEntry) : s.Sticky (s.stall c) := ⟨id, id, fun _ => rfl, [c], rfl⟩

theorem State.sticky_raise (s : State) (c : LogEntry) : s.Sticky (s.raise c) := ⟨id, id, id, [c], rfl⟩

theorem State.sticky_serviceReturn (s : State) : s.Sticky s.serviceReturn := by
  unfold State.serviceReturn
  split <;> exact .frame rfl rfl rfl rfl

theorem State.sticky_bootAdvance (s : State) (n : Nat) : s.Sticky (s.bootAdvance n) := by
  unfold State.bootAdvance
  split <;> exact .frame rfl rfl rfl rfl

theorem State.sticky_detentOrReturn (s : State) : s.Sticky s.detentOrReturn := by
  unfold State.detentOrReturn
  split <;> exact .frame rfl rfl rfl rfl

theorem State.sticky_packetDone (s : State) : s.Sticky s.packetDone := by
  unfold State.packetDone
  simp only
  split
  · exact .frame rfl rfl rfl rfl
  split <;> exact .frame rfl rfl rfl rfl

theorem State.sticky_replyFrom (s : State) (id : DescId) (l : Half) : s.Sticky (replyFrom id l s) := by
  by_cases hl : replyLen (descRom s.cfg id).length l = 0
  · rw [replyFrom_empty hl]
    exact .frame rfl rfl rfl rfl
  · rw [replyFrom_data hl]
    exact .frame rfl rfl rfl rfl

theorem RequestMove.sticky (m : RequestMove s t) : s.Sticky t := by
  cases m with
  | acknowledged => exact .frame rfl rfl rfl rfl
  | configured => exact ⟨fun _ => rfl, id, id, [], (List.append_nil _).symm⟩
  | stalled c hc => exact s.sticky_stall c
  | replied id l => exact s.sticky_replyFrom id l

theorem XferMove.sticky {after : AfterXfer} (m : XferMove after s t) : s.Sticky t := by
  cases m with
  | busy w d hb => exact ⟨id, id, id, [.busBusy w], rfl⟩
  | started w hb hk => exact .frame rfl rfl rfl rfl

theorem HookMove.sticky {h : Hook} (m : HookMove h s t) : s.Sticky t := by
  cases m with
  | xfer o d after t hc hx => exact hx.sticky
  | collect t hc hx => exact hx.sticky
  | _ => exact .frame rfl rfl rfl rfl

theorem execRotAccumulate_sticky {p : I32} (he : execRotAccumulate p s = .next t) : s.Sticky t := by
  rcases execRotAccumulate_cases he with ⟨acc, q, -, -, rfl⟩ | rfl
  · exact .frame rfl rfl rfl rfl
  · exact s.sticky_raise (.accOverflow s.rot_acc p)

theorem SqMove.sticky (m : SqMove s t) : s.Sticky t := by
  cases m with
  | boot n t hq hm => exact hm.sticky.trans (t.sticky_bootAdvance n)
  | link hq => exact ⟨id, fun _ => rfl, id, [], (List.append_nil _).symm⟩
  | dispatch t hq hc he => exact (exec_request_move he).sticky.trans t.sticky_serviceReturn
  | dataDone hq hc hp hf => exact (s.clearFlag .ep0DataDone).sticky_packetDone
  | hook k h t hq hk hm => exact hm.sticky
  | accumulate t hq hr he => exact (execRotAccumulate_sticky he).trans t.sticky_detentOrReturn
  | _ => exact .frame rfl rfl rfl rfl

theorem execRotPulse_sticky {d : Pulse} (he : execRotPulse d s = .next t) : s.Sticky t := by
  rcases execRotPulse_cases he with ht | rfl
  · rw [ht]
    exact .frame rfl rfl rfl rfl
  · exact s.sticky_raise _

theorem State.sticky_envData (s : State) (e : EnvEvent) : s.Sticky { envData e s with agent := .env } :=
  .frame (envData_configured s e) (envData_link_started s e) (envData_fault_led s e) (envData_fault_log s e)

theorem envStep_sticky {e : EnvEvent} (he : envStep e s = .next t) : s.Sticky t := by
  obtain ⟨-, ⟨f, -, rfl⟩ | ⟨d, -, hp⟩ | ⟨-, rfl⟩⟩ := envStep_cases he
  · exact s.sticky_envData e
  · exact (s.sticky_envData e).trans (execRotPulse_sticky hp)
  · exact s.sticky_envData e

/-- Settles O59: by the kind of the step, and for a step of SQ by its move. -/
theorem stickyBitsStaySet : Obligations.StickyBitsStaySet := by
  intro s t hs hreset
  show s.Sticky t
  rcases step_moves hs with ⟨u, chip, rest, hr, -⟩ | ⟨e, rest, -, he⟩ | ⟨a, rest, -, -, ⟨-, rfl⟩ | hm⟩ |
    ⟨rest, -, -, rfl⟩ | ⟨tn, rest, r, -, -, -, -, rfl⟩
  · exact absurd hr (hreset u chip rest)
  · exact envStep_sticky (s := s.passed rest) he
  · exact State.sticky_serviceReturn { s.sqTurn rest with ctl_state := .idle, ctl_phase := .stage }
  · exact hm.sticky
  · exact .frame rfl rfl rfl rfl
  · exact .frame rfl rfl rfl rfl

end Sys2Proof.Machine
end

section
/-! PROOFS. The input events (10_state.md R49): what each does when its duty is met, and that it has no step otherwise. -/

namespace Sys2Proof.Machine

variable {s : State} {e : EnvEvent} {rest : List Turn}

/-! ### The step of an event -/

/-- An event outside its duty has no step, and the run is over (U21, assumption 9). -/
theorem step_env_outside (h : s.envMoves e rest) (hm : envMay e s = false) : step s = .refused (.envDuty e) := by
  have hp : envMay e (s.passed rest) = false := hm
  rw [step_env h, envStep, if_neg (by simp [hp]), State.settle_envDuty]

/-- An event in its duty that performs an operation with a next state. -/
theorem step_env_instr {i : Instr} {t : State} (h : s.envMoves e rest) (hm : envMay e s = true)
    (hi : envInstr e s = some i) (ht : exec i (envData e (s.envTurn rest)) = .next t) : step s = .next t := by
  have hp : envMay e (s.passed rest) = true := hm
  have hpi : envInstr e (s.passed rest) = some i := hi
  have hd : { envData e (s.passed rest) with agent := .env } = envData e (s.envTurn rest) := by
    cases e with
    | epStarted ep => cases ep <;> rfl
    | epEnded ep => cases ep <;> rfl
    | _ => rfl
  rw [step_env h, envStep, if_pos hp]
  simp only [hpi, hd, ht, State.settle_next]

/-- An event in its duty that has a flag writes its data and sets the flag (R49, R303). -/
theorem step_env_flag {f : Flag} (h : s.envMoves e rest) (hm : envMay e s = true)
    (hi : envInstr e s = some (.flagSet f)) :
    step s = .next { envData e (s.envTurn rest) with flags := s.flags.put f true } := by
  refine step_env_instr h hm hi ?_
  rw [exec, execFlagSet, if_pos (by simp), State.setFlag, envData_flags, State.envTurn_flags]

/-- A movement of the knob is the pulse it makes (R170, R171). -/
theorem step_env_pulse {d : Pulse} (h : s.envMoves e rest) (hm : envMay e s = true)
    (hi : envInstr e s = some (.rotPulse d)) : step s = exec (.rotPulse d) (envData e (s.envTurn rest)) := by
  obtain ⟨t, ht⟩ := execRotPulse_next d (envData e (s.envTurn rest))
  rw [step_env_instr h hm hi ht]
  exact ht.symm

/-- A movement of the knob that makes no pulse leaves its phases (R171). -/
theorem step_env_noPulse {p : Phase} (h : s.envMoves (.phase p) rest)
    (hp : phasePulse s.cfg.ROT_DIR s.rot_phase p = none) : step s = .next { s.envTurn rest with rot_phase := p } := by
  have hi : envInstr (.phase p) (s.passed rest) = none := by simp [envInstr, hp]
  have hm : envMay (.phase p) (s.passed rest) = true := rfl
  rw [step_env h, envStep, if_pos hm]
  simp only [hi, State.settle_next]
  rfl

/-! ### The bus frame (R148) -/

/-- The cells of a frame are sampled at their rising edges, and nothing else is. -/
theorem risingSamples_bitCells (mosi miso : List Bool) {q r : Pins} (hq : q.sck = false) (hr : r.sck = false)
    (p : Pins) : risingSamples (p :: ((List.zipWith bitCell mosi miso).flatten ++ [q, r])) = mosi.zip miso := by
  induction mosi generalizing miso p with
  | nil => simp [risingSamples, hq, hr]
  | cons a mosi ih =>
    cases miso with
    | nil => simp [risingSamples, hq, hr]
    | cons b miso =>
      have hcell := ih miso ⟨false, true, a, b⟩
      simp only [List.zipWith_cons_cons, List.flatten_cons, bitCell, List.cons_append, List.nil_append, risingSamples,
        hcell, List.zip_cons_cons]
      simp

/-- A frame is sampled as the two words' wire bits (R148). -/
theorem risingSamples_busFrame (w miso : Half) :
    risingSamples (busFrame w miso) = (wireBits w).zip (wireBits miso) := by
  rw [busFrame, List.append_assoc]
  exact risingSamples_bitCells _ _ rfl rfl _

/-- The first `k` wire bits make the top `k` bits of the word. -/
theorem wordOfSamples_take (w : Half) (k : Nat) (hk : k ≤ 16) :
    wordOfSamples ((List.range k).map fun i => w.getLsbD (15 - i)) = w >>> (16 - k) := by
  induction k with
  | zero => exact (BitVec.ushiftRight_eq_zero (Nat.le_refl 16)).symm
  | succ k ih =>
    have hstep : wordOfSamples ((List.range (k + 1)).map fun i => w.getLsbD (15 - i)) =
        ((w >>> (16 - k)) <<< 1) ||| (if w.getLsbD (15 - k) then 1 else 0) := by
      rw [← ih (by omega)]
      simp [wordOfSamples, List.range_succ]
    rw [hstep, show 16 - k = (16 - (k + 1)) + 1 by omega, show 15 - k = 16 - (k + 1) by omega]
    generalize 16 - (k + 1) = n
    ext i hi
    cases i with
    | zero => cases hb : w.getLsbD n <;> simp [hb]
    | succ i => cases hb : w.getLsbD n <;> simp [Nat.add_assoc, Nat.add_comm 1 i]

theorem wordOfSamples_wireBits (w : Half) : wordOfSamples (wireBits w) = w := by
  rw [wireBits, wordOfSamples_take w 16 (Nat.le_refl _)]
  simp

/-- A frame leaves the chip's word in the receive buffer (R148). -/
theorem receivedBytes_busFrame (w miso : Half) : receivedBytes (busFrame w miso) = busBytes miso := by
  have hlen : ∀ v, (wireBits v).length = 16 := by simp [wireBits]
  have hsnd : (risingSamples (busFrame w miso)).map Prod.snd = wireBits miso := by
    rw [risingSamples_busFrame, List.map_snd_zip (by rw [hlen, hlen])]
  simp only [receivedBytes, hsnd, wordOfSamples_wireBits]
  rfl

/-! ### The obligations -/

/-- Before the link is started the environment sends no SETUP, no endpoint event and no OUT report (R31). -/
theorem envMay_unlinked (hl : s.link_started = false)
    (he : (∃ p, e = .setup p) ∨ (∃ ep, e = .epStarted ep) ∨ (∃ ep, e = .epEnded ep) ∨ e = .ep0DataDone ∨
      ∃ r, e = .epOut r) : envMay e s = false := by
  rcases he with ⟨p, rfl⟩ | ⟨ep, rfl⟩ | ⟨ep, rfl⟩ | rfl | ⟨r, rfl⟩
  · exact hl
  · cases ep <;> simp [envMay, hl]
  · cases ep <;> simp [envMay, hl]
  · simp [envMay, hl]
  · simp [envMay, hl]

/-- Settles O53: each clause is an event that `envMay` does not let come. -/
theorem eventsOutsideTheirDutyAreRefused : Obligations.EventsOutsideTheirDutyAreRefused := by
  intro s e rest h hout
  apply step_env_outside h
  rcases hout with ⟨hl, he⟩ | ⟨⟨r, rfl⟩, hc | ha⟩ | ⟨⟨rx, rfl⟩ | ⟨miso, rfl⟩, hb⟩ | howed
  · exact envMay_unlinked hl he
  · simp [envMay, hc]
  · simp [envMay, ha]
  · exact hb
  · exact hb
  · rcases howed with ⟨rfl, ho⟩ | ⟨rfl, ho⟩ | ⟨rfl, ho⟩ | ⟨rfl, ho⟩ | ⟨rfl, ho⟩ <;> simp [envMay, ho]

/-- Settles O52: each clause is the step of its event's flag, pulse, or neither. -/
theorem eventsDoWhatTheTableSays : Obligations.EventsDoWhatTheTableSays := by
  intro s e rest h
  refine ⟨?usbPower, ?setup, ?started0, ?startedIn, ?ended0, ?endedIn, ?dataDone, ?epOut, ?key, ?report, ?pulse, ?busEnd,
    ?busFrame, ?phase⟩
  case usbPower | key | report =>
    rintro rfl
    exact step_env_flag h rfl rfl
  case setup =>
    rintro p rfl hl
    exact step_env_flag h hl rfl
  case started0 | startedIn | ended0 | endedIn | dataDone =>
    rintro rfl hl ho
    exact step_env_flag h (by simp [envMay, hl, ho]) rfl
  case epOut =>
    rintro r rfl hl hc ha
    exact step_env_flag h (by simp [envMay, hl, hc, ha]) rfl
  case pulse =>
    rintro d rfl
    exact step_env_pulse (e := .pulse d) h rfl rfl
  case busEnd =>
    rintro rx rfl hb
    exact step_env_flag h hb rfl
  case busFrame =>
    rintro miso rfl hb
    rw [step_env_flag h hb rfl, ← receivedBytes_busFrame (s.bus_txbuf[0] ++ s.bus_txbuf[1]) miso]
    rfl
  case phase =>
    rintro p rfl
    exact ⟨step_env_noPulse h, fun d hd => step_env_pulse (e := .phase p) h rfl (by simp [envInstr, hd])⟩

end Sys2Proof.Machine
end

section
/-! PROOFS. The hooks' commands (10_state.md R50, 60_exceptions.md R306): SQ's step between two commands of a service's
hook. -/

namespace Sys2Proof.Machine

variable {s : State} {h : Hook}

/-- The operation a command stands for, by its bytes (R50, R89), is the one the hook performs. -/
theorem commandPerforms_iff {c : HookCmd} {i : Instr} : commandPerforms c i ↔ i = c.instr := by
  cases c <;> simp [commandPerforms, HookCmd.instr, decode, eq_comm]

/-- When the contract of R306 lets a hook end. -/
theorem hookMay_done_iff :
    hookMay h .done s = true ↔ (h = .epOut → s.hook_armed = true) ∧ (h = .detent → s.hook_sent = true) := by
  cases h <;> simp [hookMay]

/-- A hook whose list ends next, and which has issued what it must, is over (R304, R306). -/
theorem hookFetch_done {orest : List HookStep} (ho : s.oracle = .done :: orest) (hm : hookMay h .done s = true) :
    hookFetch h s = .next { s with oracle := orest, seq_state := h.after } := by
  rw [hookFetch, nextHookStep_cons ho, if_pos hm]

/-- Between two commands of a service's hook, SQ's step fetches the next one. -/
theorem step_hookFetch {rest : List Turn} (hq : s.sqMoves rest) (hh : s.atHook = some h) (hb : h ≠ .boot)
    (hc : s.cmd = .idle) : step s = (s.passed rest).settle (hookFetch h (s.sqTurn rest)) := by
  refine step_of_sqMain hq ?_
  rcases sqMain_atHook (s := s.sqTurn rest) hh with ⟨n, -, rfl, -⟩ | ⟨-, hm⟩
  · exact absurd rfl hb
  · rw [hm, hookStep_idle (s := s.sqTurn rest) hc]

/-- Settles O32: the fetch of a command, and of the hook's end. -/
theorem hookPerformsTheDecodedMessage : Obligations.HookPerformsTheDecodedMessage := by
  intro s rest h orest hq hh hb hc
  have hstep := step_hookFetch hq hh hb hc
  constructor
  · intro c i ho hf hi
    obtain rfl := commandPerforms_iff.mp hi
    rw [hstep, hookFetch_cmd (s := s.sqTurn rest) ho hf]
    cases c <;> rfl
  · intro ho harmed hsent
    rw [hstep, hookFetch_done (s := s.sqTurn rest) ho (hookMay_done_iff.mpr ⟨harmed, hsent⟩), State.settle_next]
    cases h <;> rfl

end Sys2Proof.Machine
end

section
/-! PROOFS. EP0's completions (20_memory.md R77): every step keeps its flags and the owed completions in agreement
(R213 to R216), and the steps outside service 2 do not touch them. -/

namespace Sys2Proof.Machine

variable {s t : State}

/-! ### What the agreement speaks of -/

/-- EP0's three completion flags, in the order of their events (R49). -/
def State.ep0Flags (s : State) : Bool × Bool × Bool := (s.flag .ep0Started, s.flag .ep0Ended, s.flag .ep0DataDone)

/-- The parameters, and all that `State.ep0Owned` speaks of: what only service 2 and EP0's own events change. -/
def State.ep0Part (s : State) : Config × CtlState × CtlPhase × List EpStage × Bool × Bool × Bool :=
  (s.cfg, s.ctl_state, s.ctl_phase, s.ep0_owed, s.ep0Flags)

/-- No completion of EP0 is owed and none is pending. -/
def State.ep0Quiet (s : State) : Prop := s.ep0_owed = [] ∧ s.ep0Flags = (false, false, false)

/-- A step that leaves EP0's part alone keeps the agreement. -/
theorem State.ep0Owned.frame (h : s.ep0Owned) (hp : t.ep0Part = s.ep0Part) : t.ep0Owned := by
  simp only [State.ep0Part, State.ep0Flags, Prod.mk.injEq] at hp
  obtain ⟨-, hc, hph, ho, hs, he, hd⟩ := hp
  simpa only [State.ep0Owned, hc, hph, ho, hs, he, hd] using h

/-- Where no packet is in flight, the agreement is that EP0 is quiet (R77). -/
theorem State.ep0Owned_iff_quiet (hp : s.ctl_state = .dataIn → s.ctl_phase = .stage) :
    s.ep0Owned ↔ s.ep0Quiet := by
  by_cases hc : s.ctl_state = .dataIn
  · simp [State.ep0Owned, State.ep0Quiet, State.ep0Flags, hc, hp hc]
  · simp [State.ep0Owned, State.ep0Quiet, State.ep0Flags, hc]

/-- The agreement after a step from a quiet EP0 that leaves the completions alone and stages no packet. -/
theorem State.ep0Quiet.owned (h : s.ep0Quiet) (ho : t.ep0_owed = s.ep0_owed) (hf : t.flags = s.flags)
    (hp : t.ctl_state = .dataIn → t.ctl_phase = .stage) : t.ep0Owned := by
  rw [State.ep0Owned_iff_quiet hp]
  simpa only [State.ep0Quiet, State.ep0Flags, State.flag, ho, hf] using h

/-- Outside the data stage EP0 is quiet. -/
theorem State.ep0Owned.quiet (h : s.ep0Owned) (hc : s.ctl_state ≠ .dataIn) : s.ep0Quiet :=
  (State.ep0Owned_iff_quiet fun he => absurd he hc).mp h

/-! ### Steps that leave EP0 alone -/

theorem State.serviceReturn_ep0Part (s : State) : s.serviceReturn.ep0Part = s.ep0Part := by
  unfold State.serviceReturn
  split <;> rfl

theorem State.bootAdvance_ep0Part (s : State) (n : Nat) : (s.bootAdvance n).ep0Part = s.ep0Part := by
  unfold State.bootAdvance
  split <;> rfl

theorem State.detentOrReturn_ep0Part (s : State) : s.detentOrReturn.ep0Part = s.ep0Part := by
  unfold State.detentOrReturn
  split <;> rfl

theorem execRotAccumulate_ep0Part {p : I32} (he : execRotAccumulate p s = .next t) : t.ep0Part = s.ep0Part := by
  rcases execRotAccumulate_cases he with ⟨acc, q, -, -, rfl⟩ | rfl <;> rfl

theorem execRotPulse_ep0Part {d : Pulse} (he : execRotPulse d s = .next t) : t.ep0Part = s.ep0Part := by
  rcases execRotPulse_cases he with ht | rfl
  · rw [ht]
    rfl
  · rfl

theorem XferMove.ep0Part {after : AfterXfer} (m : XferMove after s t) : t.ep0Part = s.ep0Part := by
  cases m <;> rfl

/-- No step of a hook touches EP0 (R306). -/
theorem HookMove.ep0Part {k : Hook} (m : HookMove k s t) : t.ep0Part = s.ep0Part := by
  cases m with
  | xfer o d after t hc hx => exact hx.ep0Part
  | collect t hc hx => exact hx.ep0Part
  | _ => rfl

/-- A poll clears a service's flag, which is none of EP0's (R303). -/
theorem Service.put_flag_ep0Part (k : Service) (s : State) :
    State.ep0Part { s with flags := s.flags.put k.flag false } = s.ep0Part := by
  cases k <;> rfl

/-! ### Service 2 -/

/-- A request is performed between two transfers, and the data stage it may enter begins at STAGE (R212). -/
theorem RequestMove.ep0Owned (m : RequestMove s t) (h : s.ep0Quiet) : t.ep0Owned := by
  cases m with
  | acknowledged => exact h.owned rfl rfl nofun
  | configured => exact h.owned rfl rfl nofun
  | stalled c hs => exact h.owned rfl rfl nofun
  | replied id l =>
    by_cases hl : replyLen (descRom s.cfg id).length l = 0
    · rw [replyFrom_empty hl]
      exact h.owned rfl rfl nofun
    · rw [replyFrom_data hl]
      exact h.owned rfl rfl fun _ => rfl

/-- After the last wait of a packet SQ stages the next one, or the data stage is over (R216). -/
theorem State.packetDone_ep0Owned (h : s.ep0Quiet) : s.packetDone.ep0Owned := by
  unfold State.packetDone
  simp only
  split
  · exact h.owned rfl rfl fun _ => rfl
  split
  · exact h.owned rfl rfl fun _ => rfl
  · exact h.owned rfl rfl nofun

/-- Every move of SQ keeps the agreement: STAGE finds EP0 quiet, and each wait consumes its own flag, which is pending and
so rules out the alternatives in which its completion is still owed (R213 to R216). -/
theorem SqMove.ep0Owned (m : SqMove s t) (h : s.ep0Owned) : t.ep0Owned := by
  cases m with
  | boot n t hq hm => exact h.frame ((t.bootAdvance_ep0Part n).trans hm.ep0Part)
  | pollHit k hq hf => exact h.frame (k.put_flag_ep0Part s)
  | pollMiss k hq hf => exact h.frame (k.put_flag_ep0Part s)
  | decode hq hc =>
    have hd : s.ctl_state ≠ .dataIn := by rcases hc with hc | hc <;> simp [hc]
    exact (h.quiet hd).owned rfl rfl nofun
  | dispatch t hq hc he =>
    have hd : s.ctl_state ≠ .dataIn := by simp [hc]
    exact ((exec_request_move he).ep0Owned (h.quiet hd)).frame t.serviceReturn_ep0Part
  | stage id bytes hl hq hc hp hi hr =>
    obtain ⟨howed, -⟩ := (State.ep0Owned_iff_quiet fun _ => hp).mp h
    simp [State.ep0Owned, State.flag, Flags.get_put, hc, howed]
  | started hq hc hp hf =>
    simp_all [State.ep0Owned, State.flag, Flags.get_put]
  | ended hq hc hp hf =>
    simp_all [State.ep0Owned, State.flag, Flags.get_put]
  | dataDone hq hc hp hf =>
    apply State.packetDone_ep0Owned
    simp_all [State.ep0Owned, State.ep0Quiet, State.ep0Flags, State.flag_clearFlag]
  | status hq hc =>
    exact (h.quiet (by simp [hc])).owned rfl rfl nofun
  | hook k hk t hq hhk hm => exact h.frame hm.ep0Part
  | accumulate t hq hr he => exact h.frame (t.detentOrReturn_ep0Part.trans (execRotAccumulate_ep0Part he))
  | _ => exact h.frame rfl

/-! ### The environment -/

/-- The flag that a completion of EP0 sets (R49). -/
def EpStage.ep0Flag : EpStage → Flag
  | .started => .ep0Started
  | .ended => .ep0Ended
  | .dataDone => .ep0DataDone

/-- The completion of EP0 that is owed after one was sent (R49). -/
def EpStage.ep0Next : EpStage → Option EpStage
  | .started => some .ended
  | .ended => some .dataDone
  | .dataDone => none

/-- A completion is owed for the packet in flight only, and then it is the only one (R49). -/
theorem State.ep0Owned.owed (h : s.ep0Owned) {e : EpStage} (he : e ∈ s.ep0_owed) :
    s.ctl_state = .dataIn ∧ s.ctl_phase ≠ .stage ∧ s.ep0_owed = [e] := by
  have hd : s.ctl_state = .dataIn ∧ s.ctl_phase ≠ .stage := by
    by_contra hn
    have hq := (State.ep0Owned_iff_quiet fun hc => by_contra fun hp => hn ⟨hc, hp⟩).mp h
    simp [hq.1] at he
  refine ⟨hd.1, hd.2, ?_⟩
  cases hp : s.ctl_phase <;> simp only [State.ep0Owned, hd.1, hp, if_true] at h <;> grind

/-- A completion that is owed moves the agreement on: its flag is pending, and the next one is owed (R49). -/
theorem State.ep0Owned.completed (h : s.ep0Owned) {e : EpStage} (he : e ∈ s.ep0_owed) :
    State.ep0Owned { s with
      ep0_owed := payOwed e e.ep0Next s.ep0_owed, flags := s.flags.put e.ep0Flag true, agent := .env } := by
  obtain ⟨hc, hp, ho⟩ := h.owed he
  cases hph : s.ctl_phase <;> cases e <;>
    simp_all [State.ep0Owned, payOwed, EpStage.ep0Next, EpStage.ep0Flag, State.flag, Flags.get_put]

/-- An event that sets no flag is a movement of the knob (R49, R171). -/
theorem envInstr_not_flagSet {e : EnvEvent} (h : ∀ f, envInstr e s ≠ some (.flagSet f)) :
    (∃ d, e = .pulse d) ∨ ∃ p, e = .phase p := by
  cases e with
  | pulse d => exact .inl ⟨d, rfl⟩
  | phase p => exact .inr ⟨p, rfl⟩
  | epStarted ep => cases ep <;> exact absurd rfl (h _)
  | epEnded ep => cases ep <;> exact absurd rfl (h _)
  | _ => exact absurd rfl (h _)

/-- The data of a movement of the knob leave EP0 alone. -/
theorem envData_ep0Part {e : EnvEvent} (h : ∀ f, envInstr e s ≠ some (.flagSet f)) :
    State.ep0Part { envData e s with agent := .env } = s.ep0Part := by
  rcases envInstr_not_flagSet h with ⟨d, rfl⟩ | ⟨p, rfl⟩ <;> rfl

/-- Every event keeps the agreement: EP0's come only when they are owed (R49). -/
theorem envStep_ep0Owned {e : EnvEvent} (he : envStep e s = .next t) (h : s.ep0Owned) : t.ep0Owned := by
  obtain ⟨hm, ⟨f, hi, rfl⟩ | ⟨d, hi, hp⟩ | ⟨hi, rfl⟩⟩ := envStep_cases he
  · cases e with
    | epStarted ep =>
      cases ep with
      | ep0 => cases hi; exact h.completed (e := .started) (by simp_all [envMay])
      | epIn => cases hi; exact h.frame rfl
    | epEnded ep =>
      cases ep with
      | ep0 => cases hi; exact h.completed (e := .ended) (by simp_all [envMay])
      | epIn => cases hi; exact h.frame rfl
    | ep0DataDone => cases hi; exact h.completed (e := .dataDone) (by simp_all [envMay])
    | pulse d => cases hi
    | phase p => simp [envInstr] at hi
    | _ => cases hi; exact h.frame rfl
  · exact h.frame ((execRotPulse_ep0Part hp).trans (envData_ep0Part (by simp [hi])))
  · exact h.frame (envData_ep0Part (by simp [hi]))

/-! ### The obligation -/

/-- Settles O57: by the kind of the step; without the parameter the abort step of R207 is not open. -/
theorem stepKeepsEp0Ownership : Obligations.StepKeepsEp0Ownership := by
  intro s t hcfg h hs
  rcases step_moves hs with ⟨u, chip, rest, -, rfl⟩ | ⟨e, rest, -, he⟩ | ⟨a, rest, -, -, ⟨hm, -⟩ | hm⟩ |
    ⟨rest, -, -, rfl⟩ | ⟨tn, rest, r, -, -, -, -, rfl⟩
  · exact ⟨rfl, rfl⟩
  · exact envStep_ep0Owned (s := s.passed rest) he (h.frame rfl)
  · obtain ⟨habort, -⟩ := (State.mayAbort_iff _).mp hm
    simp [hcfg] at habort
  · exact hm.ep0Owned (h.frame rfl)
  · exact h.frame rfl
  · exact h.frame rfl

end Sys2Proof.Machine
end

section
/-! PROOFS. The address spaces (20_memory.md R60 to R62): the lengths of the descriptor table's entries, that no step changes
the table, and that no step leaves an address space or writes a flag as the wrong agent. -/

namespace Sys2Proof.Machine

variable {s t : State} {r : Refusal}

/-! ### Lengths and headers (R260 to R267) -/

theorem configurationDescriptor_length (c : Config) : (configurationDescriptor c).length = 41 := rfl

/-- The further records of `CFG` begin after 9, 18, 27 and 34 bytes (R261). -/
theorem configurationDescriptor_records (c : Config) :
    (configurationDescriptor c).drop 9 =
        interfaceRecord ++ (hidRecord c ++ endpointRecord c c.EP_OUT_ADDR ++ endpointRecord c c.EP_IN_ADDR) ∧
      (configurationDescriptor c).drop 18 =
        hidRecord c ++ endpointRecord c c.EP_OUT_ADDR ++ endpointRecord c c.EP_IN_ADDR ∧
      (configurationDescriptor c).drop 27 = endpointRecord c c.EP_OUT_ADDR ++ endpointRecord c c.EP_IN_ADDR ∧
      (configurationDescriptor c).drop 34 = endpointRecord c c.EP_IN_ADDR := ⟨rfl, rfl, rfl, rfl⟩

/-- A text takes two bytes a code unit after its two header bytes (R267). -/
theorem stringDescriptor_length (text : List Half) : (stringDescriptor text).length = 2 + 2 * text.length := by
  have hunits : (text.flatMap le16Bytes).length = 2 * text.length := by simp [le16Bytes, Nat.mul_comm]
  rw [stringDescriptor, List.length_append, hunits]
  rfl

/-- The first byte of a text descriptor is its length, as long as that fits a byte (R267). -/
theorem stringDescriptor_header {text : List Half} (h : text.length ≤ 126) :
    ∃ b, (stringDescriptor text).take 2 = [b, 3] ∧ b.toNat = (stringDescriptor text).length := by
  refine ⟨BitVec.ofNat 8 (2 + 2 * text.length), rfl, ?_⟩
  rw [stringDescriptor_length, BitVec.toNat_ofNat]
  omega

/-- Settles O23: the fixed records by their bytes, the two texts by the lemmas about a text of any length. -/
theorem descriptorTableLengths : Obligations.DescriptorTableLengths := by
  intro c
  obtain ⟨hif, hhid, hout, hin⟩ := configurationDescriptor_records c
  refine ⟨rfl, configurationDescriptor_length c, rfl, stringDescriptor_length _, stringDescriptor_length _, rfl, rfl, rfl,
    rfl, ?_, ?_, ?_, ?_, stringDescriptor_header, stringDescriptor_header⟩ <;> simp only [descRom]
  · rw [hif]; rfl
  · rw [hhid]; rfl
  · rw [hout]; rfl
  · rw [hin]; rfl

/-! ### The parameters -/

theorem State.packetDone_cfg (s : State) : s.packetDone.cfg = s.cfg := by
  unfold State.packetDone
  simp only
  split
  · rfl
  split <;> rfl

theorem replyFrom_cfg (id : DescId) (l : Half) (s : State) : (replyFrom id l s).cfg = s.cfg := by
  by_cases hl : replyLen (descRom s.cfg id).length l = 0
  · rw [replyFrom_empty hl]
  · rw [replyFrom_data hl]

theorem RequestMove.cfg (m : RequestMove s t) : t.cfg = s.cfg := by
  cases m with
  | replied id l => exact replyFrom_cfg id l s
  | _ => rfl

/-- What leaves EP0's part alone leaves the parameters alone. -/
theorem State.cfg_of_ep0Part (h : t.ep0Part = s.ep0Part) : t.cfg = s.cfg := congrArg Prod.fst h

theorem State.serviceReturn_cfg (s : State) : s.serviceReturn.cfg = s.cfg := State.cfg_of_ep0Part s.serviceReturn_ep0Part

/-- No move of SQ writes the parameters (R6). -/
theorem SqMove.cfg (m : SqMove s t) : t.cfg = s.cfg := by
  cases m with
  | boot n t hq hm => exact State.cfg_of_ep0Part ((t.bootAdvance_ep0Part n).trans hm.ep0Part)
  | dispatch t hq hc he => exact t.serviceReturn_cfg.trans (exec_request_move he).cfg
  | dataDone hq hc hp hf => exact State.packetDone_cfg _
  | hook k h t hq hk hm => exact State.cfg_of_ep0Part hm.ep0Part
  | accumulate t hq hr he =>
    exact State.cfg_of_ep0Part (t.detentOrReturn_ep0Part.trans (execRotAccumulate_ep0Part he))
  | _ => rfl

/-- No event writes the parameters (R6). -/
theorem envStep_cfg {e : EnvEvent} (he : envStep e s = .next t) : t.cfg = s.cfg := by
  obtain ⟨-, ⟨f, -, rfl⟩ | ⟨d, -, hp⟩ | ⟨-, rfl⟩⟩ := envStep_cases he
  · exact envData_cfg s e
  · exact (State.cfg_of_ep0Part (execRotPulse_ep0Part hp)).trans (envData_cfg s e)
  · exact envData_cfg s e

/-- No step writes the parameters (R6), the reset among them (R340). -/
theorem step_cfg (hs : step s = .next t) : t.cfg = s.cfg := by
  rcases step_moves hs with ⟨u, chip, rest, -, rfl⟩ | ⟨e, rest, -, he⟩ | ⟨a, rest, -, -, ⟨-, rfl⟩ | hm⟩ |
    ⟨rest, -, -, rfl⟩ | ⟨tn, rest, r, -, -, -, -, rfl⟩
  · rfl
  · exact envStep_cfg (s := s.passed rest) he
  · exact State.serviceReturn_cfg { s.sqTurn rest with ctl_state := .idle, ctl_phase := .stage }
  · exact hm.cfg
  · rfl
  · rfl

/-- Settles O25: the table is a function of the parameters, which no step writes. -/
theorem descriptorTableNeverChanges : Obligations.DescriptorTableNeverChanges := by
  intro s t hs id
  rw [spaceBytes, spaceBytes, step_cfg hs]

/-! ### Refusals -/

/-- The reasons a step may be refused for from the invariant: what a hook asks (R143, R306), and an event outside its duty
(U21). -/
def Refusal.ofOutside (r : Refusal) : Prop := r.ofHook ∨ ∃ e, r = .envDuty e

theorem Refusal.ofOutside.ne_outOfRange (h : r.ofOutside) (sp : Space) (addr n : Nat) : r ≠ .outOfRange sp addr n := by
  rcases h with (⟨w, rfl⟩ | ⟨k, rfl⟩) | ⟨e, rfl⟩ <;> exact nofun

theorem Refusal.ofOutside.ne_flagWriter (h : r.ofOutside) (f : Flag) : r ≠ .flagWriter f := by
  rcases h with (⟨w, rfl⟩ | ⟨k, rfl⟩) | ⟨e, rfl⟩ <;> exact nofun

/-- From the invariant a refused state is marked for what a hook asked (R143). -/
theorem State.Inv.marked (h : s.Inv) (hr : s.refused = some r) : r.ofOutside := .inl (.inl (h.refusal r hr))

theorem State.refuse_refused {r' : Refusal} (h : s.refuse r' = .refused r) : r' = r := by
  unfold State.refuse at h
  split at h
  · cases h
  · exact Host.Outcome.refused.inj h

/-- A run that a step's attempt ends was refused already, or the step was refused (R301). -/
theorem State.attempt_refused {o : Result} (h : s.attempt o = .refused r) : s.refused = some r ∨ o = .refused r := by
  unfold State.attempt at h
  split at h
  · exact .inr (State.settle_refused h)
  · next r' hr => exact .inl (hr.trans (congrArg some (State.refuse_refused h)))

/-- Where SQ has no step, nothing is refused (R302). -/
theorem blocked_ne_refused : blocked s ≠ .refused r := by
  unfold blocked
  split <;> exact nofun

/-- SQ's step, or `o` where SQ is held, is refused for what a hook asks only (R60, R125, R143, R306). -/
theorem sqStep_getD_refused {a : Bool} {o : Result} (hi : s.Inv) (h : (sqStep a s).getD o = .refused r)
    (ho : o ≠ .refused r) : r.ofHook := by
  cases hq : sqStep a s with
  | some o' =>
    rw [hq] at h
    exact sqStep_refused hi (hq.trans (congrArg some h))
  | none =>
    rw [hq] at h
    exact absurd h ho

/-- From the invariant no step is refused but for what the hooks and the environment do (R60, R125). -/
theorem step_refused_ofOutside (h : s.Inv) (hs : step s = .refused r) : r.ofOutside := by
  have hp : ∀ rest, (s.passed rest).Inv := fun _ => { h with }
  cases hsch : s.schedule with
  | nil =>
    rw [step_nil hsch] at hs
    rcases State.attempt_refused hs with hr | hq
    · exact h.marked hr
    · exact .inl (sqStep_getD_refused (hp _) hq blocked_ne_refused)
  | cons tn rest =>
    rw [step_cons hsch] at hs
    cases tn with
    | sq a =>
      rcases State.attempt_refused hs with hr | hq
      · exact h.marked hr
      · exact .inl (sqStep_getD_refused (hp _) hq nofun)
    | env e =>
      rcases State.attempt_refused hs with hr | he
      · exact h.marked hr
      · exact .inr ⟨e, envStep_refused he⟩
    | reset u chip => cases hs

/-- Settles O58: the run ends for another reason, and by the invariant of the next state so is that state marked. -/
theorem noStepLeavesItsBuffers : Obligations.NoStepLeavesItsBuffers := by
  intro s h
  refine ⟨fun sp addr n hs => (step_refused_ofOutside h hs).ne_outOfRange sp addr n rfl,
    fun f hs => (step_refused_ofOutside h hs).ne_flagWriter f rfl, fun t hs => ?_⟩
  have ht := stepKeepsTheInvariant s t h hs
  exact ⟨fun sp addr n hr => (ht.marked hr).ne_outOfRange sp addr n rfl,
    fun f hr => (ht.marked hr).ne_flagWriter f rfl⟩

end Sys2Proof.Machine
end

section
/-! PROOFS. The fields of the bus message and of the HID report (30_encoding.md R88, R93), as numbers: how they are put
together and read back. -/

namespace Sys2Proof.Machine

/-! ### Numbers put together from two parts -/

/-- A value put together from two parts counts its upper part in units of the lower part's range. -/
theorem toNat_append_eq_mul_add {m n : Nat} (a : BitVec m) (b : BitVec n) :
    (a ++ b).toNat = a.toNat * 2 ^ n + b.toNat := by
  rw [BitVec.toNat_append, ← Nat.shiftLeft_add_eq_or_of_lt b.isLt, Nat.shiftLeft_eq]

theorem toNat_extractLsb'_eq_div_mod {w : Nat} (s n : Nat) (v : BitVec w) :
    (v.extractLsb' s n).toNat = v.toNat / 2 ^ s % 2 ^ n := by
  rw [BitVec.extractLsb'_toNat, Nat.shiftRight_eq_div_pow]

/-! ### The bus message -/

theorem toNat_busWord (rw : BitVec 1) (a : BitVec 7) (d : Byte) :
    (busWord rw a d).toNat = 32768 * rw.toNat + 256 * a.toNat + d.toNat := by
  rw [busWord, toNat_append_eq_mul_add, toNat_append_eq_mul_add]
  omega

@[simp] theorem busAddr_busWord (rw : BitVec 1) (a : BitVec 7) (d : Byte) : busAddr (busWord rw a d) = a := by
  apply BitVec.eq_of_toNat_eq
  rw [busAddr, toNat_extractLsb'_eq_div_mod, toNat_busWord]
  omega

@[simp] theorem lowByte_busWord (rw : BitVec 1) (a : BitVec 7) (d : Byte) : lowByte (busWord rw a d) = d :=
  extract_low (rw ++ a) d

@[simp] theorem getLsbD_busWord (rw : BitVec 1) (a : BitVec 7) (d : Byte) :
    (busWord rw a d).getLsbD 15 = (rw == 1) := by
  have hrw : ∀ x : BitVec 1, x.getLsbD 0 = (x == 1) := by decide
  rw [← hrw, busWord, BitVec.getLsbD_append, BitVec.getLsbD_append]
  rfl

/-- A bus word is its selector, its address and its data byte. -/
theorem busWord_fields (w : Half) : busWord (w.extractLsb' 15 1) (busAddr w) (lowByte w) = w := by
  apply BitVec.eq_of_toNat_eq
  rw [toNat_busWord, busAddr, lowByte]
  simp only [toNat_extractLsb'_eq_div_mod]
  omega

/-- Settles O9: the fields of a bus word, and its two bytes put together again. -/
theorem busWordLayout : Obligations.BusWordLayout :=
  ⟨fun rw a d => ⟨toNat_busWord rw a d, busAddr_busWord rw a d, lowByte_busWord rw a d, getLsbD_busWord rw a d⟩,
    highByte_append_lowByte⟩

/-! ### The HID report -/

/-- The 40-bit number of a report's five bytes, the first byte lowest (R93). -/
def reportNumber (r : Vector Byte 5) : Nat :=
  r[0].toNat + 2 ^ 8 * r[1].toNat + 2 ^ 16 * r[2].toNat + 2 ^ 24 * r[3].toNat + 2 ^ 32 * r[4].toNat

/-- Reports with the same number have the same bytes. -/
theorem reportNumber_injective {r r' : Vector Byte 5} (h : reportNumber r = reportNumber r') : r = r' := by
  unfold reportNumber at h
  refine Vector.ext fun i hi => BitVec.eq_of_toNat_eq ?_
  interval_cases i <;> omega

/-- A report's number is `v0 + 2^20 * v1`. -/
theorem reportNumber_packReport (v0 v1 : BitVec 20) :
    reportNumber (packReport v0 v1) = v0.toNat + 2 ^ 20 * v1.toNat := by
  simp only [reportNumber, packReport, Vector.getElem_mk, List.getElem_toArray, List.getElem_cons_zero,
    List.getElem_cons_succ, toNat_append_eq_mul_add, toNat_extractLsb'_eq_div_mod]
  omega

theorem toNat_reportV0 (r : Vector Byte 5) : (reportV0 r).toNat = reportNumber r % 2 ^ 20 := by
  simp only [reportV0, reportNumber, toNat_append_eq_mul_add, toNat_extractLsb'_eq_div_mod]
  omega

theorem toNat_reportV1 (r : Vector Byte 5) : (reportV1 r).toNat = reportNumber r / 2 ^ 20 := by
  simp only [reportV1, reportNumber, toNat_append_eq_mul_add, toNat_extractLsb'_eq_div_mod]
  omega

theorem reportV0_packReport (v0 v1 : BitVec 20) : reportV0 (packReport v0 v1) = v0 := by
  apply BitVec.eq_of_toNat_eq
  rw [toNat_reportV0, reportNumber_packReport, Nat.add_mul_mod_self_left, Nat.mod_eq_of_lt v0.isLt]

theorem reportV1_packReport (v0 v1 : BitVec 20) : reportV1 (packReport v0 v1) = v1 := by
  apply BitVec.eq_of_toNat_eq
  rw [toNat_reportV1, reportNumber_packReport]
  omega

theorem packReport_fields (r : Vector Byte 5) : packReport (reportV0 r) (reportV1 r) = r := by
  apply reportNumber_injective
  rw [reportNumber_packReport, toNat_reportV0, toNat_reportV1, Nat.mod_add_div]

/-- Settles O26: a report's number is that of its two values, and carries them both. -/
theorem reportPacking : Obligations.ReportPacking :=
  ⟨fun v0 v1 => ⟨reportNumber_packReport v0 v1, reportV0_packReport v0 v1, reportV1_packReport v0 v1⟩,
    packReport_fields⟩

end Sys2Proof.Machine
end

section
/-! PROOFS. The request map (30_encoding.md R81, R87, 43_usb_control.md R208): what each row of the mask table asks of a
request's fields, and that the first row that takes the key is the one the source's two-level dispatch selects. -/

namespace Sys2Proof.Machine

variable (r : Request)

/-! ### Searching a map -/

/-- The row found in a map is one that takes the key, or the answer for no such row. -/
theorem firstRow_takes (K : BitVec 32) (rows : List MapRow) :
    (∃ m ∈ rows, K &&& m.mask = m.pattern ∧ firstRow K rows = m.row) ∨ firstRow K rows = .unmatched := by
  induction rows with
  | nil => exact .inr rfl
  | cons m rest ih =>
    by_cases hm : K &&& m.mask = m.pattern
    · exact .inl ⟨m, List.mem_cons_self, hm, if_pos hm⟩
    · rw [firstRow, if_neg hm]
      exact ih.imp_left fun ⟨m', hmem, h⟩ => ⟨m', List.mem_cons_of_mem m hmem, h⟩

/-! ### The fields of bmRequestType (R81) -/

/-- The top three bits of bmRequestType are the direction and the type. -/
theorem kind_eq_iff (d : Bool) (t : BitVec 2) :
    r.bmRequestType.extractLsb' 5 3 = BitVec.ofBool d ++ t ↔ r.dir = d ∧ r.type = t := by
  have hkind : r.bmRequestType.extractLsb' 5 3 = BitVec.ofBool r.dir ++ r.type :=
    (by decide : ∀ b : Byte, b.extractLsb' 5 3 = BitVec.ofBool (b.getLsbD 7) ++ b.extractLsb' 5 2) _
  rw [hkind, append_eq_append, BitVec.ofBool_eq_iff_eq]

/-- bmRequestType is the direction, the type and the recipient. -/
theorem bmRequestType_eq_iff (d : Bool) (t : BitVec 2) (rc : BitVec 5) :
    r.bmRequestType = BitVec.ofBool d ++ t ++ rc ↔ r.dir = d ∧ r.type = t ∧ r.recipient = rc := by
  have happ : (r.bmRequestType.extractLsb' 5 3 ++ r.recipient : Byte) = r.bmRequestType := extract_append _
  rw [← happ, append_eq_append, kind_eq_iff, and_assoc]

/-- bmRequestType of a GET_DESCRIPTOR the block serves (R250). -/
theorem bmRequestType_getDescriptor_iff : r.bmRequestType = 0x80 ∨ r.bmRequestType = 0x81 ↔
    (r.dir = true ∧ r.type = 0) ∧ (r.recipient = 0 ∨ r.recipient = 1) := by
  have h0 : r.bmRequestType = 0x80 ↔ _ := bmRequestType_eq_iff r true 0 0
  have h1 : r.bmRequestType = 0x81 ↔ _ := bmRequestType_eq_iff r true 0 1
  rw [h0, h1, ← and_assoc, ← and_assoc, and_or_left]

/-! ### The rows of the mask table (R87) -/

/-- Rows 1 to 4: a host-to-device request of a type and a code. -/
theorem outKey_iff (t : BitVec 2) (code : Byte) :
    r.key &&& 0x0000FFE0 = (0 : Half) ++ code ++ ((BitVec.ofBool false ++ t) ++ (0 : BitVec 5)) ↔
      r.dir = false ∧ r.type = t ∧ r.bRequest = code := by
  rw [r.key_out, kind_eq_iff, and_assoc]

/-- Rows 5 to 9: a GET_DESCRIPTOR to a recipient for one type of descriptor. -/
theorem descKey_iff (rc : BitVec 5) (t : Byte) :
    r.key &&& 0xFF00FFFF = (t ++ (0 : Byte)) ++ (0x06 : Byte) ++ (BitVec.ofBool true ++ (0 : BitVec 2) ++ rc) ↔
      (r.dir = true ∧ r.type = 0 ∧ r.bRequest = 0x06) ∧ r.recipient = rc ∧ r.descType = t := by
  rw [r.key_in, bmRequestType_eq_iff]
  tauto

/-- Row 10: a GET_DESCRIPTOR to the device or to an interface. -/
theorem otherKey_iff :
    r.key &&& 0x0000FFFE = 0x00000680 ↔
      (r.dir = true ∧ r.type = 0 ∧ r.bRequest = 0x06) ∧ (r.recipient = 0 ∨ r.recipient = 1) := by
  refine (r.key_other 0x06).trans ?_
  rw [bmRequestType_getDescriptor_iff]
  tauto

/-- The first row that takes the key is the first whose fields the request has. -/
theorem row_eq_ite : r.row =
    if r.dir = false ∧ r.type = 0 ∧ r.bRequest = 0x05 then .setAddress
    else if r.dir = false ∧ r.type = 0 ∧ r.bRequest = 0x09 then .setConfiguration
    else if r.dir = false ∧ r.type = 0 ∧ r.bRequest = 0x01 then .clearFeature
    else if r.dir = false ∧ r.type = 1 ∧ r.bRequest = 0x0A then .setIdle
    else if (r.dir = true ∧ r.type = 0 ∧ r.bRequest = 0x06) ∧ r.recipient = 0 ∧ r.descType = 0x01 then
      .getDescriptorDevice
    else if (r.dir = true ∧ r.type = 0 ∧ r.bRequest = 0x06) ∧ r.recipient = 0 ∧ r.descType = 0x02 then
      .getDescriptorConfiguration
    else if (r.dir = true ∧ r.type = 0 ∧ r.bRequest = 0x06) ∧ r.recipient = 0 ∧ r.descType = 0x03 then
      .getDescriptorString
    else if (r.dir = true ∧ r.type = 0 ∧ r.bRequest = 0x06) ∧ r.recipient = 1 ∧ r.descType = 0x22 then
      .getDescriptorReport
    else if (r.dir = true ∧ r.type = 0 ∧ r.bRequest = 0x06) ∧ r.recipient = 0 ∧ r.descType = 0x06 then
      .getDescriptorDeviceQualifier
    else if (r.dir = true ∧ r.type = 0 ∧ r.bRequest = 0x06) ∧ (r.recipient = 0 ∨ r.recipient = 1) then
      .getDescriptorOther
    else .unmatched := by
  have h1 : r.key &&& 0x0000FFE0 = 0x00000500 ↔ _ := outKey_iff r 0 0x05
  have h2 : r.key &&& 0x0000FFE0 = 0x00000900 ↔ _ := outKey_iff r 0 0x09
  have h3 : r.key &&& 0x0000FFE0 = 0x00000100 ↔ _ := outKey_iff r 0 0x01
  have h4 : r.key &&& 0x0000FFE0 = 0x00000A20 ↔ _ := outKey_iff r 1 0x0A
  have h5 : r.key &&& 0xFF00FFFF = 0x01000680 ↔ _ := descKey_iff r 0 0x01
  have h6 : r.key &&& 0xFF00FFFF = 0x02000680 ↔ _ := descKey_iff r 0 0x02
  have h7 : r.key &&& 0xFF00FFFF = 0x03000680 ↔ _ := descKey_iff r 0 0x03
  have h8 : r.key &&& 0xFF00FFFF = 0x22000681 ↔ _ := descKey_iff r 1 0x22
  have h9 : r.key &&& 0xFF00FFFF = 0x06000680 ↔ _ := descKey_iff r 0 0x06
  have h11 : r.key &&& 0x00000000 = 0x00000000 := BitVec.and_zero
  simp only [Request.row, requestMap, firstRow, h1, h2, h3, h4, h5, h6, h7, h8, h9, otherKey_iff, h11, if_true]

/-- The mask table and the two-level dispatch select the same row: both levels' cases, direction first. -/
theorem row_eq_twoLevelDispatch : r.row = twoLevelDispatch r := by
  rw [row_eq_ite, twoLevelDispatch]
  cases hd : r.dir
  case false =>
    by_cases ht : r.type = 0#2
    · simp [ht]
    · by_cases ht1 : r.type = 1#2 <;> simp [ht, ht1]
  case true =>
    by_cases hget : r.type = 0#2 ∧ r.bRequest = 0x06#8
    · by_cases h0 : r.recipient = 0#5
      · simp [hget, h0]
      · by_cases h1 : r.recipient = 1#5 <;> simp [hget, h0, h1]
    · simp [hget]

/-- Settles O28. -/
theorem maskTableIsTwoLevelDispatch : Obligations.MaskTableIsTwoLevelDispatch := row_eq_twoLevelDispatch

end Sys2Proof.Machine
end

section
/-! PROOFS. Decoding and encoding (30_encoding.md R80, R87 to R89, R97): each undoes the other, for a Setup Request, for a
bus message, and for their bytes. -/

namespace Sys2Proof.Machine

/-! ### The fields of the requests the encoder builds -/

section
variable (t : BitVec 2) (rc : BitVec 5) (code : Byte) (v x l : Half)

/-- The three views of bmRequestType in a host-to-device request. -/
theorem outRequest_fields : (Request.mk (outRequestType t rc) code v x l).dir = false ∧
    (Request.mk (outRequestType t rc) code v x l).type = t ∧
    (Request.mk (outRequestType t rc) code v x l).recipient = rc :=
  (bmRequestType_eq_iff _ false t rc).1 rfl

@[simp] theorem outRequest_dir : (Request.mk (outRequestType t rc) code v x l).dir = false :=
  (outRequest_fields t rc code v x l).1

@[simp] theorem outRequest_type : (Request.mk (outRequestType t rc) code v x l).type = t :=
  (outRequest_fields t rc code v x l).2.1

@[simp] theorem outRequest_recipient : (Request.mk (outRequestType t rc) code v x l).recipient = rc :=
  (outRequest_fields t rc code v x l).2.2

end

/-- bmRequestType of a GET_DESCRIPTOR, by its fields (R250). -/
theorem getDescriptorType_eq : ∀ rc : BitVec 1,
    ((0x40 : BitVec 7) ++ rc : Byte) = BitVec.ofBool true ++ (0 : BitVec 2) ++ rc.setWidth 5 := by decide

section
variable (rc : BitVec 1) (ty n : Byte) (x l : Half)

/-- The three views of bmRequestType in a GET_DESCRIPTOR: its recipient has one bit. -/
theorem getDescriptorRequest_fields : (getDescriptorRequest rc ty n x l).dir = true ∧
    (getDescriptorRequest rc ty n x l).type = 0 ∧ (getDescriptorRequest rc ty n x l).recipient = rc.setWidth 5 :=
  (bmRequestType_eq_iff _ true 0 (rc.setWidth 5)).1 (getDescriptorType_eq rc)

@[simp] theorem getDescriptorRequest_dir : (getDescriptorRequest rc ty n x l).dir = true :=
  (getDescriptorRequest_fields rc ty n x l).1

@[simp] theorem getDescriptorRequest_type : (getDescriptorRequest rc ty n x l).type = 0 :=
  (getDescriptorRequest_fields rc ty n x l).2.1

@[simp] theorem getDescriptorRequest_recipient : (getDescriptorRequest rc ty n x l).recipient = rc.setWidth 5 :=
  (getDescriptorRequest_fields rc ty n x l).2.2

@[simp] theorem getDescriptorRequest_recipientBit :
    (getDescriptorRequest rc ty n x l).bmRequestType.extractLsb' 0 1 = rc := extract_low 0x40 rc

@[simp] theorem getDescriptorRequest_bRequest : (getDescriptorRequest rc ty n x l).bRequest = 0x06 := rfl
@[simp] theorem getDescriptorRequest_wIndex : (getDescriptorRequest rc ty n x l).wIndex = x := rfl
@[simp] theorem getDescriptorRequest_wLength : (getDescriptorRequest rc ty n x l).wLength = l := rfl

@[simp] theorem getDescriptorRequest_descType : (getDescriptorRequest rc ty n x l).descType = ty := highByte_le16 n ty

@[simp] theorem getDescriptorRequest_descIndex : (getDescriptorRequest rc ty n x l).descIndex = n := lowByte_le16 n ty

end

/-! ### A decoded request stands for the request it was decoded from -/

section
variable {r : Request}

/-- A host-to-device request is put together from its type, its recipient and its code. -/
theorem outRequest_eq {t : BitVec 2} {code : Byte} (h : r.dir = false ∧ r.type = t ∧ r.bRequest = code) :
    Request.mk (outRequestType t r.recipient) code r.wValue r.wIndex r.wLength = r := by
  obtain ⟨hd, ht, rfl⟩ := h
  have hbm : r.bmRequestType = outRequestType t r.recipient := (bmRequestType_eq_iff r false t _).2 ⟨hd, ht, rfl⟩
  rw [← hbm]

/-- A GET_DESCRIPTOR is put together from its recipient and the two bytes of wValue. -/
theorem getDescriptorRequest_eq {rc : BitVec 1} {ty : Byte}
    (h : (r.dir = true ∧ r.type = 0 ∧ r.bRequest = 0x06) ∧ r.recipient = rc.setWidth 5 ∧ r.descType = ty) :
    getDescriptorRequest rc ty r.descIndex r.wIndex r.wLength = r := by
  obtain ⟨⟨hd, ht, hb⟩, hr, rfl⟩ := h
  have hbm := ((bmRequestType_eq_iff r true 0 _).2 ⟨hd, ht, hr⟩).trans (getDescriptorType_eq rc).symm
  rw [getDescriptorRequest, Request.descType, Request.descIndex, le16_bytes, ← hbm, ← hb]

/-- A recipient of one bit is the lowest bit of bmRequestType. -/
theorem recipient_eq_setWidth (h : r.recipient = 0 ∨ r.recipient = 1) :
    r.recipient = (r.bmRequestType.extractLsb' 0 1).setWidth 5 := by
  have hbit : r.bmRequestType.extractLsb' 0 1 = r.recipient.extractLsb' 0 1 :=
    (BitVec.extractLsb'_extractLsb'_of_le (by decide)).symm
  rw [hbit]
  rcases h with h | h <;> rw [h] <;> decide

/-- No row of the request map loses a bit of the request. -/
theorem request_decodeRequest (r : Request) : (decodeRequest r).request = some r := by
  obtain ⟨m, hm, hk, hrow⟩ | hrow := firstRow_takes r.key requestMap <;> rw [decodeRequest, Request.row, hrow]
  case inr => rfl
  case inl =>
    simp only [requestMap, List.mem_cons, List.not_mem_nil, or_false] at hm
    obtain rfl | rfl | rfl | rfl | rfl | rfl | rfl | rfl | rfl | rfl | rfl := hm
    · exact congrArg some (outRequest_eq ((outKey_iff r 0 0x05).1 hk))
    · exact congrArg some (outRequest_eq ((outKey_iff r 0 0x09).1 hk))
    · exact congrArg some (outRequest_eq ((outKey_iff r 0 0x01).1 hk))
    · exact congrArg some (outRequest_eq ((outKey_iff r 1 0x0A).1 hk))
    · exact congrArg some (getDescriptorRequest_eq ((descKey_iff r 0 0x01).1 hk))
    · exact congrArg some (getDescriptorRequest_eq ((descKey_iff r 0 0x02).1 hk))
    · exact congrArg some (getDescriptorRequest_eq ((descKey_iff r 0 0x03).1 hk))
    · exact congrArg some (getDescriptorRequest_eq ((descKey_iff r 1 0x22).1 hk))
    · exact congrArg some (getDescriptorRequest_eq ((descKey_iff r 0 0x06).1 hk))
    · obtain ⟨hget, hrc⟩ := (otherKey_iff r).1 hk
      exact congrArg some (getDescriptorRequest_eq ⟨hget, recipient_eq_setWidth hrc, rfl⟩)
    · rfl

end

/-! ### A well-formed operation is decoded from the request it stands for -/

section
variable {r : Request}

/-- The requests rows 1 to 4 take. -/
theorem handledOut_iff : handledOut r.bmRequestType r.bRequest = true ↔
    (r.dir = false ∧ r.type = 0 ∧ r.bRequest = 0x05) ∨ (r.dir = false ∧ r.type = 0 ∧ r.bRequest = 0x09) ∨
      (r.dir = false ∧ r.type = 0 ∧ r.bRequest = 0x01) ∨ (r.dir = false ∧ r.type = 1 ∧ r.bRequest = 0x0A) := by
  have h0 : r.bmRequestType.extractLsb' 5 3 = 0 ↔ _ := kind_eq_iff r false 0
  have h1 : r.bmRequestType.extractLsb' 5 3 = 1 ↔ _ := kind_eq_iff r false 1
  simp only [handledOut, Bool.or_eq_true, Bool.and_eq_true, beq_iff_eq, h0, h1, and_or_left, and_assoc, or_assoc]

/-- The requests rows 5 to 10 take. -/
theorem handledIn_iff : handledIn r.bmRequestType r.bRequest = true ↔
    (r.dir = true ∧ r.type = 0 ∧ r.bRequest = 0x06) ∧ (r.recipient = 0 ∨ r.recipient = 1) := by
  simp only [handledIn, Bool.or_eq_true, Bool.and_eq_true, beq_iff_eq, bmRequestType_getDescriptor_iff]
  tauto

/-- A request that no earlier row takes is the last row's (R224). -/
theorem row_eq_unmatched (ho : ¬ handledOut r.bmRequestType r.bRequest = true)
    (hi : ¬ handledIn r.bmRequestType r.bRequest = true) : r.row = .unmatched := by
  rw [handledOut_iff, not_or, not_or, not_or] at ho
  rw [handledIn_iff] at hi
  obtain ⟨h1, h2, h3, h4⟩ := ho
  have hdev {p : Prop} : ¬ ((r.dir = true ∧ r.type = 0 ∧ r.bRequest = 0x06) ∧ r.recipient = 0 ∧ p) :=
    fun h => hi ⟨h.1, .inl h.2.1⟩
  have hif {p : Prop} : ¬ ((r.dir = true ∧ r.type = 0 ∧ r.bRequest = 0x06) ∧ r.recipient = 1 ∧ p) :=
    fun h => hi ⟨h.1, .inr h.2.1⟩
  rw [row_eq_ite, if_neg h1, if_neg h2, if_neg h3, if_neg h4, if_neg hdev, if_neg hdev, if_neg hdev, if_neg hif,
    if_neg hdev, if_neg hi]

theorem row_unmatched {bm br : Byte} {v x l : Half} (hw : (Instr.unmatched bm br v x l).wf = true) :
    (Request.mk bm br v x l).row = .unmatched := by
  have hnone : ¬ handledOut bm br = true ∧ ¬ handledIn bm br = true := by
    rwa [Instr.wf, Bool.and_eq_true, Bool.not_eq_true', Bool.not_eq_true', ← Bool.not_eq_true, ← Bool.not_eq_true] at hw
  exact row_eq_unmatched (r := ⟨bm, br, v, x, l⟩) hnone.1 hnone.2

/-- The row of a well-formed GET_DESCRIPTOR_OTHER: its recipient serves other types of descriptor only (R251, R259). -/
theorem row_getDescriptorOther {rc : BitVec 1} {ty n : Byte} {x l : Half}
    (hw : (Instr.getDescriptorOther rc ty n x l).wf = true) :
    (getDescriptorRequest rc ty n x l).row = .getDescriptorOther := by
  rw [row_eq_twoLevelDispatch]
  obtain rfl | rfl := BitVec.eq_zero_or_eq_one rc
  · have hty : ((ty ≠ 0x01#8 ∧ ty ≠ 0x02#8) ∧ ty ≠ 0x03#8) ∧ ty ≠ 0x06#8 := by simpa [Instr.wf] using hw
    simp [twoLevelDispatch, hty]
  · have hty : ty ≠ 0x22#8 := by simpa [Instr.wf] using hw
    simp [twoLevelDispatch, hty]

/-- A well-formed operation is the one its Setup Request selects. -/
theorem decodeRequest_of_request {i : Instr} (hw : i.wf = true) (hr : i.request = some r) : decodeRequest r = i := by
  cases i <;> cases hr
  case getDescriptorOther rc ty n x l =>
    rw [decodeRequest, row_getDescriptorOther hw]
    simp [Request.toInstr]
  case unmatched bm br v x l =>
    rw [decodeRequest, row_unmatched hw]
    rfl
  all_goals simp [decodeRequest, row_eq_twoLevelDispatch, twoLevelDispatch, Request.toInstr]

end

/-! ### The bus message -/

/-- The operation of a bus word is chosen by the word's selector (R89). -/
theorem decodeBusWord_busWord (rw : BitVec 1) (a : BitVec 7) (d : Byte) :
    decodeBusWord (busWord rw a d) = if rw = 1 then .busRead a d else .busWrite a d := by
  have ha : (busWord rw a d).extractLsb' 8 7 = a := busAddr_busWord rw a d
  simp only [decodeBusWord, ha, lowByte_busWord, getLsbD_busWord, beq_iff_eq]

/-- A bus operation is the one its word selects. -/
theorem decodeBusWord_of_busMessage {i : Instr} {w : Half} (hw : i.busMessage = some w) : decodeBusWord w = i := by
  cases i <;> cases hw
  case busWrite a d => exact decodeBusWord_busWord 0 a d
  case busRead a d => exact decodeBusWord_busWord 1 a d

/-- No bus message loses a bit of the word. -/
theorem decodeBusWord_fields (w : Half) :
    (decodeBusWord w).request = none ∧ (decodeBusWord w).busMessage = some w := by
  rw [← busWord_fields w, decodeBusWord_busWord]
  obtain h | h := BitVec.eq_zero_or_eq_one (w.extractLsb' 15 1) <;> rw [h] <;> exact ⟨rfl, rfl⟩

/-! ### The bytes -/

theorem decode_toBytes (r : Request) : decode r.toBytes.toList = .instr (decodeRequest r) :=
  congrArg (Decoded.instr ∘ decodeRequest) r.ofBytes_toBytes

theorem decode_busBytes (w : Half) : decode (busBytes w).toList = .instr (decodeBusWord w) :=
  congrArg (Decoded.instr ∘ decodeBusWord) (highByte_append_lowByte w)

/-- Eight bytes are a Setup Request's. -/
theorem exists_toBytes {b : List Byte} (h : b.length = 8) : ∃ r : Request, b = r.toBytes.toList :=
  match b, h with
  | [b0, b1, b2, b3, b4, b5, b6, b7], _ =>
    ⟨.ofBytes #v[b0, b1, b2, b3, b4, b5, b6, b7],
      (congrArg Vector.toList (Request.toBytes_ofBytes b0 b1 b2 b3 b4 b5 b6 b7)).symm⟩

/-- Two bytes are a bus message's. -/
theorem exists_busBytes {b : List Byte} (h : b.length = 2) : ∃ w, b = (busBytes w).toList := by
  obtain ⟨b1, b0, rfl⟩ := List.length_eq_two.1 h
  exact ⟨b1 ++ b0, by simp [busBytes]⟩

/-- Bytes of any other number are rejected (R97). -/
theorem decode_badLength {b : List Byte} (h8 : b.length ≠ 8) (h2 : b.length ≠ 2) :
    decode b = .rejected (.badLength b.length) := by
  unfold decode
  split
  · exact absurd rfl h2
  · exact absurd rfl h8
  · rfl

/-- What the bytes the decoder is given are. -/
theorem decode_cases (b : List Byte) :
    (∃ r : Request, b = r.toBytes.toList) ∨ (∃ w, b = (busBytes w).toList) ∨ b.length ≠ 8 ∧ b.length ≠ 2 := by
  by_cases h8 : b.length = 8
  · exact .inl (exists_toBytes h8)
  · by_cases h2 : b.length = 2
    · exact .inr (.inl (exists_busBytes h2))
    · exact .inr (.inr ⟨h8, h2⟩)

theorem encode_of_request {i : Instr} {r : Request} (h : i.request = some r) : encode i = some r.toBytes.toList := by
  simp only [encode, h]

theorem encode_of_busMessage {i : Instr} {w : Half} (h : i.request = none ∧ i.busMessage = some w) :
    encode i = some (busBytes w).toList := by
  simp only [encode, h]
  rfl

/-- The bytes of an operation are those of its Setup Request or of its bus message. -/
theorem encode_cases {i : Instr} {b : List Byte} (h : encode i = some b) :
    (∃ r, i.request = some r ∧ b = r.toBytes.toList) ∨ (∃ w, i.busMessage = some w ∧ b = (busBytes w).toList) := by
  cases hr : i.request with
  | some r =>
    rw [encode_of_request hr] at h
    exact .inl ⟨r, rfl, (Option.some.inj h).symm⟩
  | none =>
    cases hw : i.busMessage with
    | some w =>
      rw [encode_of_busMessage ⟨hr, hw⟩] at h
      exact .inr ⟨w, rfl, (Option.some.inj h).symm⟩
    | none => simp [encode, hr, hw] at h

/-- Decoding the bytes of a well-formed operation gives it back. -/
theorem decode_of_encode {i : Instr} {b : List Byte} (hw : i.wf = true) (hb : encode i = some b) :
    decode b = .instr i := by
  obtain ⟨r, hr, rfl⟩ | ⟨w, hm, rfl⟩ := encode_cases hb
  · rw [decode_toBytes, decodeRequest_of_request hw hr]
  · rw [decode_busBytes, decodeBusWord_of_busMessage hm]

/-- Encoding a decoded operation gives its bytes back. -/
theorem encode_of_decode {b : List Byte} {i : Instr} (hd : decode b = .instr i) : encode i = some b := by
  obtain ⟨r, rfl⟩ | ⟨w, rfl⟩ | ⟨h8, h2⟩ := decode_cases b
  · rw [decode_toBytes] at hd
    obtain rfl := Decoded.instr.inj hd
    exact encode_of_request (request_decodeRequest r)
  · rw [decode_busBytes] at hd
    obtain rfl := Decoded.instr.inj hd
    exact encode_of_busMessage (decodeBusWord_fields w)
  · rw [decode_badLength h8 h2] at hd
    cases hd

theorem decode_rejected_iff (b : List Byte) : (∃ e, decode b = .rejected e) ↔ b.length ≠ 8 ∧ b.length ≠ 2 := by
  obtain ⟨r, rfl⟩ | ⟨w, rfl⟩ | ⟨h8, h2⟩ := decode_cases b
  · simp [decode_toBytes]
  · simp [decode_busBytes]
  · simp [decode_badLength h8 h2, h8, h2]

/-! ### The obligations -/

/-- Settles O29: the round trip, and the encoder's answer constructor by constructor. -/
theorem decodeOfEncode : Obligations.DecodeOfEncode := by
  refine ⟨fun i b => decode_of_encode, fun i => ?_⟩
  cases i <;> simp [encode, Instr.request, Instr.busMessage]

/-- Settles O30: the other round trip, and the lengths the decoder takes. -/
theorem encodeOfDecode : Obligations.EncodeOfDecode := ⟨fun _ _ => encode_of_decode, decode_rejected_iff⟩

/-- Settles O27, on the eight literals. -/
theorem writtenOutWordsDecode : Obligations.WrittenOutWordsDecode := by
  unfold Obligations.WrittenOutWordsDecode
  decide

end Sys2Proof.Machine
end

section
/-! PROOFS. Signal Flags (40_signal_flag.md): what Set and TestAndClear do for their own agent and for the other one (R120
to R122, R125), and the waits whose event never comes (R123, R302). -/

namespace Sys2Proof.Machine

variable {s : State} {f : Flag}

/-! ### Set and TestAndClear by their own agents (R120, R121) -/

theorem exec_flagSet_env (ha : s.agent = .env) : exec (.flagSet f) s = .next (s.setFlag f) := if_pos ha

theorem exec_flagTac_sq (ha : s.agent = .sq) :
    exec (.flagTac f) s = .next { s.clearFlag f with ret_flag := s.flag f } := testAndClear_sq ha

/-- Settles O1: the next state is `setFlag`. -/
theorem flagSetSetsOnlyItsFlag : Obligations.FlagSetSetsOnlyItsFlag := by
  intro f s ha
  refine ⟨s.setFlag f, exec_flagSet_env ha, ?_, fun g hg => ?_, rfl⟩
  · rw [State.flag_setFlag, if_pos rfl]
  · rw [State.flag_setFlag, if_neg hg]

/-- Settles O2: the next state is `clearFlag`, with the old value returned. -/
theorem flagTacReturnsAndClears : Obligations.FlagTacReturnsAndClears := by
  intro f s ha
  refine ⟨_, exec_flagTac_sq ha, rfl, ?_, fun g hg => ?_, rfl⟩
  · exact (State.flag_clearFlag s f f).trans (if_pos rfl)
  · exact (State.flag_clearFlag s f g).trans (if_neg hg)

/-! ### The two orders (R122) -/

theorem perform_set (f : Flag) (s : State) :
    (Form.set f).perform s = .next (State.setFlag { s with agent := .env } f) := exec_flagSet_env rfl

theorem perform_tac (f : Flag) (s : State) :
    (Form.tac f).perform s = .next { State.clearFlag { s with agent := .sq } f with ret_flag := s.flag f } :=
  exec_flagTac_sq rfl

/-- Two forms, the first of which has a next state, end where the second ends from there. -/
theorem performAll_pair {a b : Form} {t u : State} (ha : a.perform s = .next t) (hb : b.perform t = .next u) :
    performAll [a, b] s = .next u := by
  simp only [performAll, ha, hb]

/-- Settles O5: each order is the one operation's next state, read after the other's. -/
theorem setIsNeverLost : Obligations.SetIsNeverLost := by
  intro f s
  refine ⟨⟨_, performAll_pair (perform_set f s) (perform_tac f _), ?_, ?_⟩,
    ⟨_, performAll_pair (perform_tac f s) (perform_set f _), rfl, ?_⟩⟩
  · exact (State.flag_setFlag _ f f).trans (if_pos rfl)
  · exact (State.flag_clearFlag _ f f).trans (if_pos rfl)
  · exact (State.flag_setFlag _ f f).trans (if_pos rfl)

/-! ### The other agent is refused (R125) -/

theorem exec_flagSet_sq (ha : s.agent = .sq) : exec (.flagSet f) s = .refused (.flagWriter f) :=
  if_neg (by simp [ha])

theorem testAndClear_env (ha : s.agent = .env) : testAndClear f s = .refused (.flagWriter f) :=
  if_neg (by simp [ha])

/-- The operations that start a transaction are `startXfer` of the word they send (R141, R142, R145). -/
theorem exec_of_startsTransaction {i : Instr} {w : Half} {after : AfterXfer} (h : startsTransaction i w after)
    (s : State) : exec i s = startXfer after w s := by
  rcases h with ⟨rfl, rfl⟩ | ⟨a, d, rfl, hw, rfl⟩ | ⟨a, d, rfl, hw, rfl⟩
  · rfl
  · obtain rfl : w = busWord 0 a d := BitVec.eq_of_toNat_eq (by rw [hw, toNat_busWord]; simp)
    rfl
  · obtain rfl : w = busWord 1 a d := BitVec.eq_of_toNat_eq (by rw [hw, toNat_busWord]; simp)
    rfl

/-- A transaction started by the environment would clear the bus's completion flag. -/
theorem startXfer_env {after : AfterXfer} {w : Half} (ha : s.agent = .env) (hb : s.bus_busy = false)
    (hk : knowsAddr s.cfg (busAddr w) = true) : startXfer after w s = .refused (.flagWriter .busDone) := by
  rw [startXfer, if_neg (by simp [hk]), if_neg (by simp [hb]), if_neg (by simp [ha])]

/-- An EP0 transfer started by the environment would clear EP0's completion flags. -/
theorem startEp0_env {bytes : List Byte} (ha : s.agent = .env) (hl : bytes.length ≤ 64) :
    startEp0 bytes s = .refused (.flagWriter .ep0Started) := by
  simp [startEp0, memWrite, hl, ha]

/-- An interrupt-IN transfer started by the environment would clear that endpoint's completion flags. -/
theorem startEpIn_env {bytes : List Byte} (ha : s.agent = .env) (hl : bytes.length ≤ 5) :
    startEpIn bytes s = .refused (.flagWriter .epInStarted) := by
  simp [startEpIn, memWrite, hl, ha]

/-- Settles O4, operation by operation. -/
theorem flagWritersAreSeparated : Obligations.FlagWritersAreSeparated := by
  refine ⟨fun f s => exec_flagSet_sq, fun f s => testAndClear_env, fun s => testAndClear_env, ?_,
    fun bytes s => startEp0_env, fun bytes s => startEpIn_env⟩
  intro i w after s hi ha hb hk
  rw [exec_of_startsTransaction hi, startXfer_env ha hb hk]

/-! ### The flag a wait is for (R123, R302) -/

/-- The completion flag awaited inside a hook's command (R146, R230). -/
def CmdPos.awaits : CmdPos → Option Flag
  | .idle => none
  | .busWait _ => some .busDone
  | .collect => none
  | .inStarted => some .epInStarted
  | .inEnded => some .epInEnded

/-- The completion flag awaited in the data stage (R214 to R216). -/
def CtlPhase.awaits : CtlPhase → Option Flag
  | .stage => none
  | .waitStarted => some .ep0Started
  | .waitEnded => some .ep0Ended
  | .waitDataDone => some .ep0DataDone

/-- In a hook SQ waits for what the command awaits. -/
theorem State.waitsFor_atHook {h : Hook} (hh : s.atHook = some h) : s.waitsFor = s.cmd.awaits := by
  rcases State.atHook_cases hh with ⟨n, hq, -⟩ | ⟨hq, -⟩ | ⟨hq, -⟩ | ⟨hq, hr, -⟩
  · rw [State.waitsFor, hq]; rfl
  · rw [State.waitsFor, hq]; rfl
  · rw [State.waitsFor, hq]; rfl
  · simp only [State.waitsFor, hq, hr, if_pos]; rfl

/-- In the data stage SQ waits for what the phase awaits. -/
theorem State.waitsFor_dataIn (hq : s.seq_state = .run .setup) (hc : s.ctl_state = .dataIn) :
    s.waitsFor = s.ctl_phase.awaits := by
  simp only [State.waitsFor, hq, hc, if_pos]; rfl

/-! ### SQ has no step at a wait whose flag is 0 (R123) -/

theorem hookStep_none {h : Hook} (hw : s.cmd.awaits = some f) (hf : s.flag f = false) : hookStep h s = none := by
  unfold hookStep
  cases hc : s.cmd with
  | idle => rw [hc] at hw; cases hw
  | collect => rw [hc] at hw; cases hw
  | busWait after => rw [hc] at hw; cases hw; exact waitFlag_clear _ hf
  | inStarted => rw [hc] at hw; cases hw; exact waitFlag_clear _ hf
  | inEnded => rw [hc] at hw; cases hw; exact waitFlag_clear _ hf

theorem dataStep_none (hw : s.ctl_phase.awaits = some f) (hf : s.flag f = false) : dataStep s = none := by
  cases hp : s.ctl_phase with
  | stage => rw [hp] at hw; cases hw
  | waitStarted => rw [hp] at hw; cases hw; rw [dataStep_waitStarted hp, waitFlag_clear _ hf]
  | waitEnded => rw [hp] at hw; cases hw; rw [dataStep_waitEnded hp, waitFlag_clear _ hf]
  | waitDataDone => rw [hp] at hw; cases hw; rw [dataStep_waitDataDone hp, waitFlag_clear _ hf]

theorem sqMain_none_atHook {h : Hook} (hh : s.atHook = some h) (hw : s.cmd.awaits = some f)
    (hf : s.flag f = false) : sqMain s = none := by
  rcases sqMain_atHook hh with ⟨n, -, -, hm⟩ | ⟨-, hm⟩
  · rw [hm, bootStep, hookStep_none hw hf, Option.map_none]
  · rw [hm, hookStep_none hw hf]

theorem sqMain_none_dataIn (hq : s.seq_state = .run .setup) (hc : s.ctl_state = .dataIn)
    (hw : s.ctl_phase.awaits = some f) (hf : s.flag f = false) : sqMain s = none := by
  rw [sqMain_dataIn hq hc, dataStep_none hw hf]

/-- With no turn left, and the abort step not open, SQ without a step at a wait is stuck (R302). -/
theorem step_hang (hr : s.refused = none) (hs : s.schedule = []) (ha : s.cfg.SETUP_ABORTS = false)
    (hw : s.waitsFor = some f) (hm : sqMain (s.sqTurn []) = none) : step s = .fault (.hang f) := by
  have habort : (s.sqTurn []).mayAbort = false := by simp [State.mayAbort, ha]
  have hb : blocked (s.passed []) = .fault (.hang f) := by
    rw [blocked, show (s.passed []).waitsFor = some f from hw]
  rw [step_nil hs, sqStep_held hm habort, Option.getD_none, hb, State.passed_attempt_of_none _ hr, State.settle_fault]

/-- Settles O47: at each wait the phase or the command awaits the flag, and there SQ has no step. -/
theorem waitWithoutCompletionHangs : Obligations.WaitWithoutCompletionHangs := by
  intro s f hr hs ha hf h
  rcases h with ⟨hq, hc, hp⟩ | ⟨⟨h, hh⟩, hc⟩
  · have hw : s.ctl_phase.awaits = some f := by
      rcases hp with ⟨hp, rfl⟩ | ⟨hp, rfl⟩ | ⟨hp, rfl⟩ <;> rw [hp] <;> rfl
    exact step_hang hr hs ha ((State.waitsFor_dataIn hq hc).trans hw) (sqMain_none_dataIn hq hc hw hf)
  · have hw : s.cmd.awaits = some f := by
      rcases hc with ⟨after, hc, rfl⟩ | ⟨hc, rfl⟩ | ⟨hc, rfl⟩ <;> rw [hc] <;> rfl
    exact step_hang hr hs ha ((State.waitsFor_atHook hh).trans hw) (sqMain_none_atHook (s := s.sqTurn []) hh hw hf)

end Sys2Proof.Machine
end

section
/-! PROOFS. Runs of several steps, and SQ's step in a hook: where it leaves SQ in a service and in boot (70_reset_and_hazards.md
R342), and what the step at the wait of a transaction does (41_bus_transactor.md R146, R147). -/

namespace Sys2Proof.Machine

variable {s t u : State} {h : Hook} {rest : List Turn}

/-! ### Runs -/

theorem runPorts_succ {k : Nat} {es : List Emit} (hs : step s = .next t) (hk : runPorts k t = some (es, u)) :
    runPorts (k + 1) s = some (t.emitted ++ es, u) := by
  simp only [runPorts, hs, hk]

/-- A run cut in two. -/
theorem runPorts_add {j k : Nat} {es es' : List Emit} (hj : runPorts j s = some (es, t))
    (hk : runPorts k t = some (es', u)) : runPorts (j + k) s = some (es ++ es', u) := by
  induction j generalizing s es with
  | zero =>
    cases hj
    rwa [Nat.zero_add]
  | succ j ih =>
    rw [runPorts] at hj
    split at hj
    · next v hv =>
      split at hj
      · next fs w hw =>
        cases hj
        rw [Nat.add_right_comm, runPorts_succ hv (ih hw), List.append_assoc]
      · cases hj
    · cases hj
    · cases hj

/-! ### SQ's step in a hook -/

/-- Where SQ stands once a command of a hook has run to its end: boot counts it (R342), a service does not. -/
def SeqState.commandDone : SeqState → SeqState
  | .boot n => .boot (n + 1)
  | .sleep => .sleep
  | .poll k => .poll k
  | .run k => .run k

theorem SeqState.commandDone_of_not_boot {q : SeqState} (hq : ∀ n, q ≠ .boot n) : q.commandDone = q := by
  cases q with
  | boot n => exact absurd rfl (hq n)
  | _ => rfl

/-- Only HOOK_BOOT runs in boot (R306). -/
theorem State.not_boot_of_atHook (hh : s.atHook = some h) (hb : h ≠ .boot) (n : Nat) : s.seq_state ≠ .boot n := by
  intro hq
  rw [State.atHook, hq] at hh
  exact hb (Option.some.inj hh).symm

/-- No hook runs in service 2, so the abort step of R207 is not open in one. -/
theorem State.mayAbort_atHook (hh : s.atHook = some h) : s.mayAbort = false := by
  rw [← Bool.not_eq_true, State.mayAbort_iff]
  rintro ⟨-, -, hq, -, -⟩
  rw [State.atHook, hq] at hh
  cases hh

/-- The end of a command leaves SQ in the same hook. -/
theorem State.atHook_commandDone (s : State) :
    State.atHook { s with seq_state := s.seq_state.commandDone } = s.atHook := by
  cases hq : s.seq_state <;> simp only [State.atHook, hq, SeqState.commandDone]

/-- A hook's step that leaves SQ at a wait is SQ's step, in boot too: the command has not run to its end (R342). -/
theorem sqMain_atHook_waiting (hh : s.atHook = some h) (hs : hookStep h s = some (.next t))
    (hw : t.cmd.waiting = true) : sqMain s = some (.next t) := by
  rcases sqMain_atHook hh with ⟨n, -, rfl, hm⟩ | ⟨-, hm⟩
  · rw [hm, bootStep, hs, Option.map_some, afterNext_next, State.bootAdvance, if_neg (by simp [hw])]
  · rw [hm, hs]

/-- A hook's step that leaves SQ at no wait, and in the hook, has ended a command. -/
theorem sqMain_atHook_done (hh : s.atHook = some h) (hs : hookStep h s = some (.next t))
    (hq : t.seq_state = s.seq_state) (hw : t.cmd.waiting = false) :
    sqMain s = some (.next { t with seq_state := s.seq_state.commandDone }) := by
  rcases sqMain_atHook hh with ⟨n, hn, rfl, hm⟩ | ⟨hb, hm⟩
  · rw [hm, bootStep, hs, Option.map_some, afterNext_next, State.bootAdvance, if_pos ⟨hq.trans hn, hw⟩, hn,
      SeqState.commandDone]
  · rw [hm, hs, SeqState.commandDone_of_not_boot (State.not_boot_of_atHook hh hb), ← hq]

/-! ### The wait of a transaction (R146, R147) -/

/-- A turn of SQ passes at the wait while the transaction is in flight (R123, assumption 2). -/
theorem step_busWait_held {after : AfterXfer} (hr : s.refused = none) (hs : s.schedule = .sq false :: rest)
    (hh : s.atHook = some h) (hc : s.cmd = .busWait after) (hf : s.flag .busDone = false) :
    step s = .next (s.passed rest) := by
  have hm : sqMain (s.sqTurn rest) = none := by
    refine sqMain_none_atHook (s := s.sqTurn rest) (f := .busDone) hh ?_ hf
    rw [State.sqTurn_cmd, hc]
    rfl
  exact step_held hr hs (sqStep_held hm (State.mayAbort_atHook (s := s.sqTurn rest) hh))

/-- At the wait of a transaction that is over SQ takes its result (R146, R147). -/
theorem step_busWait_done {after : AfterXfer} (hm : s.sqMoves rest) (hh : s.atHook = some h)
    (hc : s.cmd = .busWait after) (hf : s.flag .busDone = true) :
    step s = .next { State.finishXfer after (State.clearFlag (s.sqTurn rest) .busDone) with
      seq_state := s.seq_state.commandDone } := by
  have hs : hookStep h (s.sqTurn rest) = waitFlag .busDone (s.sqTurn rest) (State.finishXfer after) := by
    rw [hookStep, State.sqTurn_cmd, hc]
  rw [waitFlag_set (s := s.sqTurn rest) _ hf] at hs
  exact step_of_sqMain_next hm (sqMain_atHook_done (s := s.sqTurn rest) hh hs rfl (by cases after <;> rfl))

end Sys2Proof.Machine
end

section
/-! PROOFS. The bus transactor (41_bus_transactor.md): the start of a transaction (R141 to R145), its frame (R148, R149), its
end (R146, R147), and the two transactions of a `BUS_READ` (R142, R150). -/

namespace Sys2Proof.Machine

variable {s : State} {h : Hook}

/-! ### The start (R141 to R145) -/

theorem toNat_highByte (w : Half) : (highByte w).toNat = w.toNat / 256 := by
  rw [highByte, toNat_extractLsb'_eq_div_mod]
  omega

theorem toNat_lowByte (w : Half) : (lowByte w).toNat = w.toNat % 256 := by
  rw [lowByte, toNat_extractLsb'_eq_div_mod]
  omega

/-- Settles O6: the next state is `startXfer`'s on an idle bus. -/
theorem transactionStarts : Obligations.TransactionStarts := by
  intro i w after s hi ha hb hk
  have hn := (exec_of_startsTransaction hi s).trans (startXfer_next hk hb ha)
  refine ⟨_, hn, toNat_highByte w, toNat_lowByte w, rfl, ?_, fun g hg => ?_, rfl, rfl, rfl⟩
  · exact (State.flag_clearFlag s .busDone .busDone).trans (if_pos rfl)
  · exact (State.flag_clearFlag s .busDone g).trans (if_neg hg)

/-- Settles O7: the next state is `startXfer`'s on a busy bus. -/
theorem transactionWhileBusyIsLogged : Obligations.TransactionWhileBusyIsLogged := by
  intro i w after s hi hb hk
  have hn := (exec_of_startsTransaction hi s).trans (startXfer_busy hk hb)
  exact ⟨_, hn, rfl, rfl, by cases after <;> rfl, rfl⟩

/-- Settles O8: `startXfer` looks at the address first. -/
theorem unknownAddressIsRefused : Obligations.UnknownAddressIsRefused := by
  intro i w after s hi hk
  exact (exec_of_startsTransaction hi s).trans (startXfer_unknown hk)

/-! ### The frame (R148, R149) -/

/-- The levels of a frame between the two idle levels at its ends. -/
def frameLevels (w miso : Half) : List Pins :=
  (List.zipWith bitCell (wireBits w) (wireBits miso)).flatten ++ [⟨false, false, w.getLsbD 0, miso.getLsbD 0⟩]

theorem busFrame_eq (w miso : Half) : busFrame w miso = pinsIdle :: (frameLevels w miso ++ [pinsIdle]) := by
  simp [busFrame, frameLevels]

theorem bitCell_selected {mosi miso : Bool} {p : Pins} (hp : p ∈ bitCell mosi miso) : p.cs = false := by
  obtain rfl | rfl : p = ⟨false, false, mosi, miso⟩ ∨ p = ⟨false, true, mosi, miso⟩ := by simpa [bitCell] using hp
  · rfl
  · rfl

theorem bitCells_selected {mosi miso : List Bool} {p : Pins} (hp : p ∈ (List.zipWith bitCell mosi miso).flatten) :
    p.cs = false := by
  rw [← List.map_uncurry_zip_eq_zipWith, List.mem_flatten] at hp
  obtain ⟨cell, hcell, hp⟩ := hp
  obtain ⟨⟨a, b⟩, -, rfl⟩ := List.mem_map.mp hcell
  exact bitCell_selected hp

/-- The chip is selected from the first bit to the last falling edge (R148). -/
theorem frameLevels_selected {w miso : Half} {p : Pins} (hp : p ∈ frameLevels w miso) : p.cs = false := by
  rcases List.mem_append.mp hp with hp | hp
  · exact bitCells_selected hp
  · rw [List.mem_singleton.mp hp]

/-- Settles O10: the samples are the two words' wire bits, and every level but the idle ones is a selected one. -/
theorem busFrameIsSixteenBitsMsbFirst : Obligations.BusFrameIsSixteenBitsMsbFirst := by
  intro w miso
  refine ⟨?_, rfl, ?_, fun p hp => ?_, fun p hp hsck => ?_, receivedBytes_busFrame w miso⟩
  · rw [risingSamples_busFrame, List.map_fst_zip (by simp [wireBits]), wireBits]
  · rw [busFrame_eq, List.getLast?_cons, List.getLast?_concat]
    rfl
  · rw [busFrame_eq, List.tail_cons, List.dropLast_concat] at hp
    exact frameLevels_selected hp
  · simp only [busFrame_eq, List.mem_cons, List.mem_append, List.not_mem_nil, or_false] at hp
    rcases hp with rfl | hp | rfl
    · cases hsck
    · exact frameLevels_selected hp
    · cases hsck

/-! ### The end (R146, R147) -/

/-- The word of two received bytes has the first one high (R64). -/
theorem toNat_wordOfBus (b : Vector Byte 2) : (wordOfBus b).toNat = 256 * b[0].toNat + b[1].toNat := by
  rw [wordOfBus, toNat_append_eq_mul_add]
  omega

/-- Settles O11: the held wait, and the wait that ends. -/
theorem transactionReturnsTheReceivedWord : Obligations.TransactionReturnsTheReceivedWord := by
  intro s h after rest hr hs hh hc
  refine ⟨step_busWait_held hr hs hh hc, fun hf => ?_⟩
  refine ⟨_, step_busWait_done ⟨hr, .inl hs⟩ hh hc hf, toNat_wordOfBus s.bus_rxbuf, rfl, by cases after <;> rfl, ?_,
    fun g hg => ?_, fun hb => ?_, fun n hn => ?_, rfl⟩
  · exact (State.flag_clearFlag s .busDone .busDone).trans (if_pos rfl)
  · exact (State.flag_clearFlag s .busDone g).trans (if_neg hg)
  · exact SeqState.commandDone_of_not_boot (State.not_boot_of_atHook hh hb)
  · show s.seq_state.commandDone = .boot (n + 1)
    rw [hn, SeqState.commandDone]

/-! ### A whole transaction, and the two of a read (R142, R150) -/

@[simp] theorem wordOfBus_busBytes (w : Half) : wordOfBus (busBytes w) = w := highByte_append_lowByte w

/-- `s` after SQ's start of a transaction that sends `w` (R145). -/
def State.xferStarted (s : State) (after : AfterXfer) (w : Half) : State :=
  State.emit { s.clearFlag .busDone with bus_txbuf := busBytes w, bus_busy := true, cmd := .busWait after }
    (.busStart (busBytes w))

/-- `s` after the transaction in flight has ended with the answer `rx`, and SQ has consumed that end (R49, R146, R147). -/
def State.xferEnded (s : State) (after : AfterXfer) (rx : Vector Byte 2) (rest : List Turn) : State :=
  { State.finishXfer after ((State.setFlag ((s.busEnd rx).sqTurn rest) .busDone).clearFlag .busDone) with
    seq_state := s.seq_state.commandDone }

/-- A hook's step that starts a transaction on an idle bus is SQ's, in boot too (R145). -/
theorem sqMain_xferStarted {t : State} {after : AfterXfer} {w : Half} (hh : s.atHook = some h)
    (hx : hookStep h s = some (startXfer after w t)) (ha : t.agent = .sq) (hb : t.bus_busy = false)
    (hk : knowsAddr t.cfg (busAddr w) = true) : sqMain s = some (.next (t.xferStarted after w)) :=
  sqMain_atHook_waiting hh (hx.trans (congrArg some (startXfer_next hk hb ha))) rfl

/-- A transaction that the environment ends at once is over in two steps, which drive no port (assumption 5). -/
theorem runPorts_xferEnded {after : AfterXfer} {rx : Vector Byte 2} {rest : List Turn} (hr : s.refused = none)
    (hs : s.schedule = .env (.busEnd rx) :: .sq false :: rest) (hh : s.atHook = some h)
    (hc : s.cmd = .busWait after) (hb : s.bus_busy = true) :
    runPorts 2 s = some ([], s.xferEnded after rx rest) := by
  have hend : step s = .next (State.setFlag ((s.envTurn (.sq false :: rest)).busEnd rx) .busDone) :=
    step_env_flag (e := .busEnd rx) ⟨hr, hs⟩ hb rfl
  have hwait := step_busWait_done (s := State.setFlag ((s.envTurn (.sq false :: rest)).busEnd rx) .busDone) (h := h)
    ⟨hr, .inl rfl⟩ hh hc ((State.flag_setFlag ..).trans (if_pos rfl))
  exact runPorts_succ hend (runPorts_succ hwait rfl)

/-- A transaction of a hook on an idle bus, ended at once by the environment: the ports carry its word in the first step.
`o` are the oracle's answers that remain once the hook has its command. -/
theorem runPorts_transaction {after : AfterXfer} {w : Half} {rx : Vector Byte 2} {o : List HookStep} {rest : List Turn}
    (hr : s.refused = none) (hs : s.schedule = .sq false :: .env (.busEnd rx) :: .sq false :: rest)
    (hh : s.atHook = some h) (hb : s.bus_busy = false) (hk : knowsAddr s.cfg (busAddr w) = true)
    (hx : ∀ later, hookStep h (s.sqTurn later) = some (startXfer after w (State.asked (s.sqTurn later) o s.draws))) :
    runPorts 3 s =
      some ([.busStart (busBytes w)], ((s.asked o s.draws).xferStarted after w).xferEnded after rx rest) := by
  have hstart := step_of_sqMain_next ⟨hr, .inl hs⟩ (sqMain_xferStarted (s := s.sqTurn _) hh (hx _) rfl hb hk)
  exact runPorts_succ hstart (runPorts_xferEnded (h := h) hr rfl hh rfl rfl)

/-- The request of a `BUS_READ` is the transaction of its word (R142). -/
theorem hookStep_busRead {a : BitVec 7} {orest : List HookStep} (hc : s.cmd = .idle)
    (ho : s.oracle = .cmd (.message (busWord 1 a 0)) :: orest)
    (hf : ¬ forbiddenCommand h (.message (busWord 1 a 0)) s) :
    hookStep h s = some (startXfer .collect (busWord 1 a 0) (s.asked orest s.draws)) := by
  rw [hookStep_idle hc, hookFetch_cmd ho hf, HookCmd.instr, decodeBusWord_busWord, if_pos rfl]
  rfl

/-- After the request a hook sends the no-op word, to collect the answer (R142). -/
theorem hookStep_collect (hc : s.cmd = .collect) :
    hookStep h s = some (startXfer .caller s.cfg.BUS_NOP_WORD s) := by
  rw [hookStep, hc]
  rfl

/-- The low byte of the answer to a read request is the register asked for (R150). -/
theorem periphContract_busRead {a : BitVec 7} {regValue : BitVec 7 → Byte} {rx : Vector Byte 2}
    (hp : periphContract (some (busWord 1 a 0)) regValue rx) : lowByte (wordOfBus rx) = regValue a := by
  have hrx := hp (getLsbD_busWord 1 a 0)
  rw [busAddr_busWord] at hrx
  rw [wordOfBus, lowByte_append, hrx]

/-- Settles O12: the request's transaction, and the collecting one from where the request leaves SQ. -/
theorem busReadIsOneTransactionLate : Obligations.BusReadIsOneTransactionLate := by
  intro s h a orest rest rx1 rx2 regValue hr hh hc hb ho hf hka hkn hs _ hp
  have hrequest := runPorts_transaction (h := h) (after := .collect) (w := busWord 1 a 0) (o := orest) hr hs hh hb
    (by rwa [busAddr_busWord]) fun later => hookStep_busRead (s := s.sqTurn later) hc ho hf
  have hhook : State.atHook (((s.asked orest s.draws).xferStarted .collect (busWord 1 a 0)).xferEnded .collect rx1
      (.sq false :: .env (.busEnd rx2) :: .sq false :: rest)) = some h := (State.atHook_commandDone s).trans hh
  have hboth := runPorts_add hrequest (runPorts_transaction (h := h) (after := .caller) (o := orest) hr rfl hhook rfl hkn
    fun _ => hookStep_collect rfl)
  exact ⟨_, _, hboth, periphContract_busRead hp, rfl, rfl,
    congrArg some (wordOfBus_busBytes s.cfg.BUS_NOP_WORD), rfl⟩

end Sys2Proof.Machine
end

section
/-! PROOFS. The rotary accumulator (42_rotary_accumulator.md): its four operations (R170 to R176), and the two steps service 5
makes before its hook (R177). -/

namespace Sys2Proof.Machine

variable {s : State} {p : I32} {rest : List Turn}

/-! ### Pulses, Sample and HasReport (R170, R172, R176) -/

theorem exec_rotPulse_fits {d : Pulse} (h : fitsI32 (s.rot_cnt.toInt + pulseValue d) = true) :
    exec (.rotPulse d) s = .next { s with rot_cnt := BitVec.ofInt 32 (s.rot_cnt.toInt + pulseValue d) } := if_pos h

theorem exec_rotPulse_overflow {d : Pulse} (h : ¬ fitsI32 (s.rot_cnt.toInt + pulseValue d) = true) :
    exec (.rotPulse d) s = .next (s.raise (.pulseOverflow s.rot_cnt d)) := if_neg h

theorem exec_rotSample (s : State) : exec .rotSample s = .next { s with ret_sample := s.rot_cnt, rot_cnt := 0 } := rfl

theorem exec_rotHasReport_sq (ha : s.agent = .sq) :
    exec .rotHasReport s = .next { s.clearFlag .rotReport with ret_flag := s.flag .rotReport } := testAndClear_sq ha

/-- Settles O13, by whether the sum is in `i32`. -/
theorem pulseIsCountedOrLogged : Obligations.PulseIsCountedOrLogged := by
  intro d s v
  have hv : pulseValue d = v := by cases d <;> rfl
  rw [← hv]
  refine ⟨fun hlo hhi => ?_, fun hout => ?_⟩
  · have hf := (fitsI32_iff _).mpr ⟨hlo, hhi⟩
    exact ⟨_, exec_rotPulse_fits hf, toInt_ofInt_of_fits hf, rfl⟩
  · refine exec_rotPulse_overflow ?_
    rw [fitsI32_iff]
    omega

/-- Settles O14. -/
theorem sampleReadsAndClears : Obligations.SampleReadsAndClears :=
  fun s => ⟨_, exec_rotSample s, rfl, rfl, rfl⟩

/-- Settles O3: the next state is `clearFlag`, with the old value returned. -/
theorem hasReportConsumesTheReportFlag : Obligations.HasReportConsumesTheReportFlag := by
  intro s ha
  refine ⟨_, exec_rotHasReport_sq ha, rfl, ?_, fun g hg => ?_, rfl⟩
  · exact (State.flag_clearFlag s .rotReport .rotReport).trans (if_pos rfl)
  · exact (State.flag_clearFlag s .rotReport g).trans (if_neg hg)

/-! ### Accumulate (R173 to R175) -/

/-- The whole detents `q` and the remainder `acc` that a sum is split into, rounded toward zero (R173 to R175). -/
structure SplitsSum (sum : Int) (q acc : I32) : Prop where
  total : 4 * q.toInt + acc.toInt = sum
  low : -3 ≤ acc.toInt
  high : acc.toInt ≤ 3
  nonneg : 0 ≤ sum → 0 ≤ acc.toInt
  nonpos : sum ≤ 0 → acc.toInt ≤ 0

/-- The registers hold the quotient and the remainder of a sum in range exactly. -/
theorem splitsSum_truncDiv {sum : Int} (h : fitsI32 sum = true) :
    SplitsSum sum (BitVec.ofInt 32 (truncDiv sum 4)) (BitVec.ofInt 32 (sum - 4 * truncDiv sum 4)) := by
  obtain ⟨hlo, hhi, hnonneg, hnonpos⟩ := truncDiv_four sum
  rw [fitsI32_iff] at h
  have hq : (BitVec.ofInt 32 (truncDiv sum 4)).toInt = truncDiv sum 4 :=
    toInt_ofInt_of_fits ((fitsI32_iff _).mpr (by omega))
  have hacc : (BitVec.ofInt 32 (sum - 4 * truncDiv sum 4)).toInt = sum - 4 * truncDiv sum 4 :=
    toInt_ofInt_of_fits ((fitsI32_iff _).mpr (by omega))
  constructor <;> rw [hacc]
  · rw [hq, add_sub_cancel]
  all_goals assumption

/-- Accumulate of an operand whose sum with the accumulator is in range. -/
theorem exec_rotAccumulate_fits (h : fitsI32 (s.rot_acc.toInt + p.toInt) = true) :
    ∃ q acc, exec (.rotAccumulate p) s = .next { s with rot_acc := acc, ret_indents := q } ∧
      SplitsSum (s.rot_acc.toInt + p.toInt) q acc :=
  ⟨_, _, execRotAccumulate_fits h, splitsSum_truncDiv h⟩

/-- Settles O15, by whether the sum is in `i32`. -/
theorem accumulateSplitsTheSum : Obligations.AccumulateSplitsTheSum := by
  intro p s sum
  refine ⟨fun hlo hhi => ?_, fun hout => ?_⟩
  · obtain ⟨q, acc, he, hsplit⟩ := exec_rotAccumulate_fits ((fitsI32_iff sum).mpr ⟨hlo, hhi⟩)
    exact ⟨_, he, hsplit.total, hsplit.low, hsplit.high, hsplit.nonneg, hsplit.nonpos, rfl⟩
  · refine execRotAccumulate_overflow ?_
    rw [← Bool.not_eq_true, fitsI32_iff]
    omega

/-! ### Service 5 before its hook (R177) -/

/-- `s` after the first step of service 5: the counter is SQ's, and the next step accumulates it. -/
def State.sampled (s : State) (rest : List Turn) : State :=
  { s.sqTurn rest with ret_sample := s.rot_cnt, rot_cnt := 0, rot_step := .accumulate }

theorem step_rotary_sample (hm : s.sqMoves rest) (hq : s.seq_state = .run .rotary) (hr : s.rot_step = .sample) :
    step s = .next (s.sampled rest) := by
  refine step_of_sqMain_next hm ?_
  rw [sqMain_run (s := s.sqTurn rest) hq, runStep, rotaryStep, State.sqTurn_rot_step, hr]
  rfl

/-- The second step of service 5, by what Accumulate answers. -/
theorem step_rotary_accumulate {t : State} (hm : s.sqMoves rest) (hq : s.seq_state = .run .rotary)
    (hr : s.rot_step = .accumulate) (he : exec (.rotAccumulate s.ret_sample) (s.sqTurn rest) = .next t) :
    step s = .next t.detentOrReturn := by
  refine step_of_sqMain_next hm ?_
  rw [sqMain_run (s := s.sqTurn rest) hq, runStep, rotaryStep, State.sqTurn_rot_step, hr]
  exact congrArg (fun o => some (afterNext o State.detentOrReturn)) he

/-- With no whole detent nothing further happens (R177, R304). -/
theorem State.detentOrReturn_zero (h : s.ret_indents = 0) : s.detentOrReturn = { s with seq_state := .sleep } := if_pos h

/-- With a whole detent the detent hook is next (R177). -/
theorem State.detentOrReturn_ne_zero (h : s.ret_indents ≠ 0) : s.detentOrReturn = { s with rot_step := .detent } :=
  if_neg h

/-- In service 5 after Accumulate the detent hook runs (R306). -/
theorem State.atHook_detent (hq : s.seq_state = .run .rotary) (hr : s.rot_step = .detent) : s.atHook = some .detent := by
  rw [State.atHook, hq]
  exact if_pos hr

/-- Settles O16: Sample's step, then Accumulate's, which ends by the number of whole detents. -/
theorem rotaryServiceKeepsEveryPulse : Obligations.RotaryServiceKeepsEveryPulse := by
  intro s rest hr hs hq hstep hlo hhi
  have hsample := step_rotary_sample (rest := .sq false :: rest) ⟨hr, .inl hs⟩ hq hstep
  obtain ⟨q, acc, he, hsplit⟩ := exec_rotAccumulate_fits (s := (s.sampled (.sq false :: rest)).sqTurn rest)
    (p := s.rot_cnt) ((fitsI32_iff _).mpr ⟨hlo, hhi⟩)
  have haccumulate := step_rotary_accumulate (s := s.sampled (.sq false :: rest)) ⟨hr, .inl rfl⟩ hq rfl he
  by_cases hz : q = 0
  · rw [State.detentOrReturn_zero hz] at haccumulate
    exact ⟨_, runPorts_succ hsample (runPorts_succ haccumulate rfl), rfl, hsplit.total, fun _ => rfl,
      fun hne => absurd hz hne, rfl, rfl, rfl⟩
  · rw [State.detentOrReturn_ne_zero hz] at haccumulate
    exact ⟨_, runPorts_succ hsample (runPorts_succ haccumulate rfl), rfl, hsplit.total, fun h => absurd h hz,
      fun _ => ⟨hq, rfl, State.atHook_detent hq rfl⟩, rfl, rfl, rfl⟩

end Sys2Proof.Machine
end

section
/-! PROOFS. Requests (43_usb_control.md R206, R208, R220 to R224, R240, R241): the decode of the latched SETUP packet, what
each request handler does, and that service 2's step is the handler of the decoded request. -/

namespace Sys2Proof.Machine

variable {s : State} {rest : List Turn}

/-! ### The handlers (R220 to R224) -/

theorem exec_setAddress (rc : BitVec 5) (v x l : Half) (s : State) :
    exec (.setAddress rc v x l) s = .next { s with ctl_state := .status } := rfl

theorem exec_clearFeature (rc : BitVec 5) (v x l : Half) (s : State) :
    exec (.clearFeature rc v x l) s = .next { s with ctl_state := .status } := rfl

theorem exec_setIdle (rc : BitVec 5) (v x l : Half) (s : State) :
    exec (.setIdle rc v x l) s = .next { s with ctl_state := .status } := rfl

theorem exec_setConfiguration_accepted (rc : BitVec 5) {v : Half} (x l : Half) (s : State) (h : v = CONFIG_VALUE) :
    exec (.setConfiguration rc v x l) s =
      .next { (s.emit .epEnable).emit .epOutArm with configured := true, out_armed := true, ctl_state := .status } :=
  if_pos h

theorem exec_setConfiguration_stalls (rc : BitVec 5) {v : Half} (x l : Half) (s : State) (h : v ≠ CONFIG_VALUE) :
    exec (.setConfiguration rc v x l) s = .next (s.stall (.stallBadConfig v)) := if_neg h

theorem exec_unmatched (bm br : Byte) (v x l : Half) (s : State) :
    exec (.unmatched bm br v x l) s = .next (s.stall (.stallUnmatched (Request.toBytes ⟨bm, br, v, x, l⟩))) := rfl

/-- Settles O17. -/
theorem acknowledgedRequestsOnlyMoveToStatus : Obligations.AcknowledgedRequestsOnlyMoveToStatus := fun rc v x l s =>
  ⟨exec_setAddress rc v x l s, exec_clearFeature rc v x l s, exec_setIdle rc v x l s⟩

/-- Settles O18, by whether the value is the one configuration's. -/
theorem setConfigurationAcceptsOnlyOne : Obligations.SetConfigurationAcceptsOnlyOne := by
  intro rc v x l s
  have hone : v.toNat = 1 ↔ v = CONFIG_VALUE := BitVec.toNat_inj (y := CONFIG_VALUE)
  refine ⟨fun h => ?_, fun h => exec_setConfiguration_stalls rc x l s (mt hone.mpr h)⟩
  rw [exec_setConfiguration_accepted rc x l s (hone.mp h)]
  simp [State.emit]

/-- A half word is its two bytes, the high one in units of 256 (R10). -/
theorem toNat_bytes (w : Half) : 256 * (highByte w).toNat + (lowByte w).toNat = w.toNat := by
  rw [toNat_highByte, toNat_lowByte]
  omega

/-- Settles O19: the stall logs the bytes of the request, whose numbers are split low byte first. -/
theorem unmatchedRequestStalls : Obligations.UnmatchedRequestStalls := fun bm br v x l s =>
  ⟨_, Request.toBytes ⟨bm, br, v, x, l⟩, exec_unmatched bm br v x l s, rfl, rfl, rfl, rfl, rfl, rfl,
    toNat_bytes v, toNat_bytes x, toNat_bytes l, rfl⟩

/-! ### Service 2 between the decode and the data stage (R205, R206, R208) -/

theorem sqMain_setup (hq : s.seq_state = .run .setup) : sqMain s = ctlStep s := by
  rw [sqMain_run hq, runStep]

/-- Service 2 returns exactly when the transfer is over (R205). -/
theorem State.serviceReturn_eq_ite (s : State) : s.serviceReturn =
    if s.ctl_state = .idle ∨ s.ctl_state = .stalled then { s with seq_state := .poll .epOut } else s := by
  cases hc : s.ctl_state <;> simp [State.serviceReturn, hc, Service.after]

/-- Service 2's step on a decoded request is the request's handler (R208). -/
theorem step_dispatch (hm : s.sqMoves rest) (hq : s.seq_state = .run .setup) (hc : s.ctl_state = .setupDecoded) :
    step s = afterNext (exec (decodeRequest s.req) (s.sqTurn rest)) State.serviceReturn := by
  obtain ⟨t, ht⟩ := exec_request_next s.req (s.sqTurn rest)
  have hd : sqMain (s.sqTurn rest) = some (dispatchStep (s.sqTurn rest)) := by
    rw [sqMain_setup (s := s.sqTurn rest) hq, ctlStep, State.sqTurn_ctl_state, hc]
  rw [dispatchStep, State.sqTurn_req, ht, afterNext_next] at hd
  rw [ht, afterNext_next]
  exact step_of_sqMain_next hm hd

/-- Settles O31: the decoded operation is the one of the request whose bytes they are. -/
theorem dispatchPerformsTheDecodedRequest : Obligations.DispatchPerformsTheDecodedRequest := by
  intro s rest i hm hq hc hi
  obtain rfl : decodeRequest s.req = i := Decoded.instr.inj ((decode_toBytes s.req).symm.trans hi)
  rw [step_dispatch hm hq hc]
  exact congrArg (afterNext _) (funext State.serviceReturn_eq_ite)

/-- Service 2 begins with the decode of the latch, from STALLED as from IDLE (R201, R206). -/
theorem step_decodeLatch (hm : s.sqMoves rest) (hq : s.seq_state = .run .setup)
    (hc : s.ctl_state = .idle ∨ s.ctl_state = .stalled) : step s = .next (s.sqTurn rest).decodeLatch := by
  refine step_of_sqMain_next hm ?_
  rw [sqMain_setup (s := s.sqTurn rest) hq, ctlStep, State.sqTurn_ctl_state]
  rcases hc with hc | hc <;> rw [hc]

theorem toNat_le16 (b0 b1 : Byte) : (le16 b0 b1).toNat = 256 * b1.toNat + b0.toNat := by
  rw [le16, toNat_append_eq_mul_add]
  omega

theorem Request.toNat_recipient (r : Request) : r.recipient.toNat = r.bmRequestType.toNat % 32 := by
  rw [Request.recipient, toNat_extractLsb'_eq_div_mod]
  omega

theorem Request.toNat_type (r : Request) : r.type.toNat = r.bmRequestType.toNat / 32 % 4 :=
  toNat_extractLsb'_eq_div_mod 5 2 r.bmRequestType

theorem Request.dir_iff (r : Request) : r.dir = true ↔ 128 ≤ r.bmRequestType.toNat := by
  have hmsb : r.dir = r.bmRequestType.msb := r.bmRequestType.msb_eq_getLsbD_last.symm
  rw [hmsb, BitVec.msb_eq_decide, decide_eq_true_iff]

/-- Settles O34: the fields of the request decoded from the latch, as numbers. -/
theorem decodeReadsTheLatch : Obligations.DecodeReadsTheLatch := fun _ _ hm hq hc =>
  ⟨_, step_decodeLatch hm hq hc, rfl, rfl, Request.toNat_recipient _, Request.toNat_type _, Request.dir_iff _,
    toNat_le16 .., toNat_le16 .., toNat_le16 .., rfl, rfl, rfl, rfl, rfl, rfl⟩

end Sys2Proof.Machine
end

section
/-! PROOFS. The IN-transfer primitive and the OUT buffer (43_usb_control.md R230, R231): the start of a transfer, the waits
of a hook's `SEND_IN`, and `ARM_OUT`. -/

namespace Sys2Proof.Machine

variable {s : State} {rest : List Turn}

/-! ### The start of a transfer (R230) -/

/-- `s` after SQ's start of an EP0 transfer of `bytes` (R213, R230). -/
def State.ep0Sending (s : State) (bytes : List Byte) (h : 0 + bytes.length ≤ 64) : State :=
  { s with
    ep0_buf := splice s.ep0_buf 0 bytes h
    flags := ((s.flags.put .ep0Started false).put .ep0Ended false).put .ep0DataDone false
    ep0_len := BitVec.ofNat 7 bytes.length
    ctl_phase := .waitStarted
    ep0_owed := s.ep0_owed ++ [.started]
    emitted := s.emitted ++ [.epInStart .ep0 bytes] }

theorem exec_epInSend_ep0 {bytes : List Byte} (h : 0 + bytes.length ≤ 64) (hs : s.agent = .sq) :
    exec (.epInSend .ep0 bytes) s = .next (s.ep0Sending bytes h) := startEp0_next h hs

/-- `ep0_len` holds the size of every packet (R28). -/
theorem toNat_packetLength {n : Nat} (h : n ≤ 64) : (BitVec.ofNat 7 n).toNat = n := by
  rw [BitVec.toNat_ofNat]
  omega

/-- Bytes staged at the front of a buffer leave its other bytes (R60, R66). -/
theorem toList_splice_front {n : Nat} (v : Vector Byte n) (bs : List Byte) (h : 0 + bs.length ≤ n) :
    (splice v 0 bs h).toList = bs ++ v.toList.drop bs.length := by
  rw [splice_toList, Nat.zero_add, List.take_zero, List.nil_append]

theorem startEp0_outOfRange {bytes : List Byte} (h : 64 < bytes.length) :
    startEp0 bytes s = .refused (.outOfRange .ep0Buf 0 bytes.length) := by
  have hl : ¬ 0 + bytes.length ≤ 64 := by omega
  rw [startEp0, memWrite, dif_neg hl]

theorem startEpIn_outOfRange {bytes : List Byte} (h : 5 < bytes.length) :
    startEpIn bytes s = .refused (.outOfRange .epInBuf 0 bytes.length) := by
  have hl : ¬ 0 + bytes.length ≤ 5 := by omega
  rw [startEpIn, memWrite, dif_neg hl]

/-- Settles O42: both endpoints, with bytes that fit the buffer and with more. -/
theorem epInSendStartsTheTransfer : Obligations.EpInSendStartsTheTransfer := by
  intro bytes s ha
  refine ⟨fun hl => ?_, fun hl => ?_, startEp0_outOfRange, startEpIn_outOfRange⟩
  · have hfit : 0 + bytes.length ≤ 64 := by omega
    exact ⟨_, exec_epInSend_ep0 hfit ha, toList_splice_front _ _ hfit, toNat_packetLength hl, rfl, rfl, rfl, rfl, rfl⟩
  · have hfit : 0 + bytes.length ≤ 5 := by omega
    exact ⟨_, startEpIn_next hfit ha, toList_splice_front _ _ hfit, rfl, rfl, rfl, rfl, rfl⟩

/-! ### The waits of `SEND_IN` (R230) -/

/-- In a service's hook, a wait whose flag is 1 is passed (R123). -/
theorem step_hookWait {h : Hook} {f : Flag} {k : State → State} (hm : s.sqMoves rest) (hh : s.atHook = some h)
    (hb : h ≠ .boot) (hw : hookStep h (s.sqTurn rest) = waitFlag f (s.sqTurn rest) k) (hf : s.flag f = true) :
    step s = .next (k (State.clearFlag (s.sqTurn rest) f)) := by
  rw [waitFlag_set (s := s.sqTurn rest) k hf] at hw
  refine step_of_sqMain_next hm ?_
  rcases sqMain_atHook (s := s.sqTurn rest) hh with ⟨n, -, rfl, -⟩ | ⟨-, hq⟩
  · exact absurd rfl hb
  · rw [hq, hw]

/-- Settles O43. -/
theorem sendInWaitsInOrder : Obligations.SendInWaitsInOrder := by
  intro s rest h hm hh hb
  constructor
  · intro hc hf
    exact step_hookWait hm hh hb (k := fun t => { t with cmd := .inEnded })
      (by rw [hookStep, State.sqTurn_cmd, hc]) hf
  · intro hc hf
    exact step_hookWait hm hh hb (k := fun t => { t with cmd := .idle })
      (by rw [hookStep, State.sqTurn_cmd, hc]) hf

/-! ### The OUT buffer (R231) -/

/-- Settles O44. -/
theorem armOutArms : Obligations.ArmOutArms := fun _ => rfl

end Sys2Proof.Machine
end

section
/-! PROOFS. The data stage and the status stage (43_usb_control.md R212 to R217): STAGE, the three waits of a packet, what
follows a packet, and the run that sends a whole reply. -/

namespace Sys2Proof.Machine

variable {s : State} {id : DescId} {rest : List Turn}

/-! ### STAGE (R213) -/

/-- The bytes of the reply that come next: the entry from the offset on, in one packet (R213). -/
def State.nextPacket (s : State) (id : DescId) : List Byte :=
  ((descRom s.cfg id).drop s.reply_off.toNat).take (packetSize s.reply_len s.reply_off)

/-- The offset is inside a reply that fits its entry (R213, R252). -/
structure State.Replying (s : State) (id : DescId) : Prop where
  src : s.reply_src = some id
  off : s.reply_off.toNat ≤ s.reply_len.toNat
  len : s.reply_len.toNat ≤ (descRom s.cfg id).length

theorem State.Replying.length_nextPacket (h : s.Replying id) :
    (s.nextPacket id).length = packetSize s.reply_len s.reply_off := by
  have hrest := packetSize_le_rest s.reply_len s.reply_off
  have hoff := h.off
  have hlen := h.len
  rw [State.nextPacket, List.length_take, List.length_drop]
  omega

theorem State.Replying.nextPacket_fits (h : s.Replying id) : 0 + (s.nextPacket id).length ≤ 64 := by
  rw [h.length_nextPacket, Nat.zero_add]
  exact packetSize_le ..

/-- The read of a packet stays in the entry; a packet of no byte may stand at the entry's end (assumption 32). -/
theorem State.Replying.memRead_nextPacket (h : s.Replying id) :
    memRead (.descRom id) s.reply_off.toNat (packetSize s.reply_len s.reply_off) s = some (s.nextPacket id) := by
  refine memRead_eq ?_
  have hrest := packetSize_le_rest s.reply_len s.reply_off
  have hoff := h.off
  have hlen := h.len
  rw [spaceBytes]
  omega

theorem State.Replying.stageStep_eq (h : s.Replying id) (ha : s.agent = .sq) :
    stageStep s = .next (s.ep0Sending (s.nextPacket id) h.nextPacket_fits) := by
  simp only [stageStep, h.src, h.memRead_nextPacket]
  exact exec_epInSend_ep0 _ ha

/-- SQ's step at STAGE starts the next packet (R213). -/
theorem State.Replying.step_stage (h : s.Replying id) (hm : s.sqMoves rest) (hq : s.seq_state = .run .setup)
    (hc : s.ctl_state = .dataIn) (hp : s.ctl_phase = .stage) :
    step s = .next ((s.sqTurn rest).ep0Sending (s.nextPacket id) h.nextPacket_fits) := by
  have hturn : (s.sqTurn rest).Replying id := ⟨h.src, h.off, h.len⟩
  refine step_of_sqMain_next hm ?_
  rw [sqMain_dataIn (s := s.sqTurn rest) hq hc, dataStep_stage (s := s.sqTurn rest) hp, hturn.stageStep_eq rfl]
  rfl

/-- The start of an EP0 transfer clears EP0's three completion flags, and no other (R213). -/
theorem State.flag_ep0Sending (s : State) (bytes : List Byte) (h : 0 + bytes.length ≤ 64) (g : Flag) :
    (s.ep0Sending bytes h).flag g =
      if g = .ep0DataDone ∨ g = .ep0Ended ∨ g = .ep0Started then false else s.flag g := by
  cases g <;> rfl

/-- Settles O35: the packet started is the one the statement writes out. -/
theorem stageSendsTheNextPacket : Obligations.StageSendsTheNextPacket := by
  intro s rest id hm hq hc hp hi hoff hlen n bytes
  have h : s.Replying id := ⟨hi, hoff, hlen⟩
  have hn : bytes.length = n := h.length_nextPacket
  have hbuf := toList_splice_front s.ep0_buf (s.nextPacket id) h.nextPacket_fits
  have hlen64 : n ≤ 64 := packetSize_le s.reply_len s.reply_off
  refine ⟨_, h.step_stage hm hq hc hp, rfl, ?_, ?_, rfl, rfl, rfl, rfl, fun g hs he hd => ?_, rfl, rfl⟩
  · show (BitVec.ofNat 7 bytes.length).toNat = n
    rw [hn, toNat_packetLength hlen64]
  · exact hbuf.trans (congrArg (fun m => bytes ++ s.ep0_buf.toList.drop m) hn)
  · exact (State.flag_ep0Sending ..).trans (if_neg (by simp [hs, he, hd]))

/-! ### The waits of a packet (R214 to R216) -/

/-- In the data stage, a wait whose flag is 1 is passed (R123). -/
theorem step_dataWait {f : Flag} {k : State → State} (hm : s.sqMoves rest) (hq : s.seq_state = .run .setup)
    (hc : s.ctl_state = .dataIn) (hw : dataStep (s.sqTurn rest) = waitFlag f (s.sqTurn rest) k)
    (hf : s.flag f = true) : step s = .next (k (State.clearFlag (s.sqTurn rest) f)) := by
  refine step_of_sqMain_next hm ?_
  rw [sqMain_dataIn (s := s.sqTurn rest) hq hc, hw, waitFlag_set (s := s.sqTurn rest) k hf]

theorem step_waitStarted (hm : s.sqMoves rest) (hq : s.seq_state = .run .setup) (hc : s.ctl_state = .dataIn)
    (hp : s.ctl_phase = .waitStarted) (hf : s.flag .ep0Started = true) :
    step s = .next { s.sqTurn rest with flags := s.flags.put .ep0Started false, ctl_phase := .waitEnded } :=
  step_dataWait hm hq hc (dataStep_waitStarted (s := s.sqTurn rest) hp) hf

theorem step_waitEnded (hm : s.sqMoves rest) (hq : s.seq_state = .run .setup) (hc : s.ctl_state = .dataIn)
    (hp : s.ctl_phase = .waitEnded) (hf : s.flag .ep0Ended = true) :
    step s = .next { s.sqTurn rest with flags := s.flags.put .ep0Ended false, ctl_phase := .waitDataDone } :=
  step_dataWait hm hq hc (dataStep_waitEnded (s := s.sqTurn rest) hp) hf

/-- `s` after SQ has consumed a packet's last completion (R216). -/
def State.dataDonePassed (s : State) (rest : List Turn) : State :=
  { s.sqTurn rest with flags := s.flags.put .ep0DataDone false }

theorem step_waitDataDone (hm : s.sqMoves rest) (hq : s.seq_state = .run .setup) (hc : s.ctl_state = .dataIn)
    (hp : s.ctl_phase = .waitDataDone) (hf : s.flag .ep0DataDone = true) :
    step s = .next (s.dataDonePassed rest).packetDone :=
  step_dataWait hm hq hc (dataStep_waitDataDone (s := s.sqTurn rest) hp) hf

/-! ### What follows a packet (R216) -/

/-- The offset after the packet in flight. -/
def State.sentOff (s : State) : Half := s.reply_off + s.ep0_len.setWidth 16

theorem State.toNat_sentOff (h : s.reply_off.toNat + s.ep0_len.toNat < 65536) :
    s.sentOff.toNat = s.reply_off.toNat + s.ep0_len.toNat := by
  rw [State.sentOff, BitVec.toNat_add, BitVec.toNat_setWidth]
  omega

/-- Bytes remain: the next packet is staged. -/
theorem State.packetDone_more (h : s.sentOff.toNat < s.reply_len.toNat) :
    s.packetDone = { s with reply_off := s.sentOff, ctl_phase := .stage } := if_pos h

/-- No byte remains and a zero-length packet is pending: it is staged. -/
theorem State.packetDone_zlp (h : s.reply_len.toNat ≤ s.sentOff.toNat) (hz : s.zlp_pending = true) :
    s.packetDone = { s with reply_off := s.sentOff, zlp_pending := false, ctl_phase := .stage } :=
  (if_neg (Nat.not_lt.mpr h)).trans (if_pos hz)

/-- Nothing remains: the status stage follows. -/
theorem State.packetDone_last (h : s.reply_len.toNat ≤ s.sentOff.toNat) (hz : s.zlp_pending = false) :
    s.packetDone = { s with reply_off := s.sentOff, ctl_state := .status } :=
  (if_neg (Nat.not_lt.mpr h)).trans (if_neg (by simp [hz]))

/-- What follows a packet moves only the offset, the zero-length packet and where the transfer stands (R216). -/
theorem State.packetDone_frame (s : State) : s.packetDone = { s with
    reply_off := s.packetDone.reply_off
    zlp_pending := s.packetDone.zlp_pending
    ctl_state := s.packetDone.ctl_state
    ctl_phase := s.packetDone.ctl_phase } := by
  by_cases hmore : s.sentOff.toNat < s.reply_len.toNat
  · rw [State.packetDone_more hmore]
  · cases hz : s.zlp_pending with
    | true => rw [State.packetDone_zlp (Nat.not_lt.mp hmore) hz]
    | false => rw [State.packetDone_last (Nat.not_lt.mp hmore) hz]

/-- Settles O36: the first two waits, and the last one with what follows it, by the three cases of R216. -/
theorem packetWaitsInOrder : Obligations.PacketWaitsInOrder := by
  intro s rest hm hq hc
  refine ⟨step_waitStarted hm hq hc, step_waitEnded hm hq hc, fun hp hf hlt => ?_⟩
  have hstep := step_waitDataDone hm hq hc hp hf
  have hoff := State.toNat_sentOff hlt
  by_cases hmore : s.sentOff.toNat < s.reply_len.toNat
  · rw [State.packetDone_more (s := s.dataDonePassed rest) hmore] at hstep
    exact ⟨_, hstep, hoff, rfl, fun _ => ⟨hc, rfl, rfl⟩, fun hle => absurd hmore (Nat.not_lt.mpr hle),
      fun hle => absurd hmore (Nat.not_lt.mpr hle), rfl⟩
  have hle := Nat.not_lt.mp hmore
  cases hz : s.zlp_pending with
  | true =>
    rw [State.packetDone_zlp (s := s.dataDonePassed rest) hle hz] at hstep
    exact ⟨_, hstep, hoff, rfl, fun h => absurd h hmore, fun _ _ => ⟨hc, rfl, rfl⟩, nofun, rfl⟩
  | false =>
    rw [State.packetDone_last (s := s.dataDonePassed rest) hle hz] at hstep
    exact ⟨_, hstep, hoff, rfl, fun h => absurd h hmore, nofun, fun _ _ => ⟨rfl, rfl, hz⟩, rfl⟩

/-! ### The status stage (R217) -/

/-- Settles O38. -/
theorem statusStageEndsTheTransfer : Obligations.StatusStageEndsTheTransfer := by
  intro s rest hm hq hc
  refine step_of_sqMain_next hm ?_
  rw [sqMain_setup (s := s.sqTurn rest) hq, ctlStep, State.sqTurn_ctl_state, hc]
  rfl

end Sys2Proof.Machine
end

section
/-! PROOFS. The run of a whole data stage (43_usb_control.md R212 to R216, 44_usb_descriptors.md R252): one packet with an
environment that completes it at once, and by induction on the packets all of the reply. -/

namespace Sys2Proof.Machine

variable {s t : State} {id : DescId} {rest : List Turn}

/-! ### A completion and the wait it ends (R49, R214 to R216) -/

/-- The event that sends a completion of EP0 (R49). -/
def EpStage.ep0Event : EpStage → EnvEvent
  | .started => .epStarted .ep0
  | .ended => .epEnded .ep0
  | .dataDone => .ep0DataDone

/-- A completion of EP0 that is owed sets its flag, and the next one is owed (R49). -/
theorem step_ep0Event {e : EpStage} (h : s.envMoves e.ep0Event rest) (hl : s.link_started = true)
    (ho : s.ep0_owed = [e]) :
    step s = .next { s.envTurn rest with ep0_owed := e.ep0Next.toList, flags := s.flags.put e.ep0Flag true } := by
  have hm : envMay e.ep0Event s = true := by cases e <;> simp [EpStage.ep0Event, envMay, hl, ho]
  rw [step_env_flag (f := e.ep0Flag) h hm (by cases e <;> rfl)]
  cases e <;> simp [EpStage.ep0Event, EpStage.ep0Next, envData, payOwed, ho]

/-- `s` after a completion `e` has come and SQ has consumed it. -/
def State.ep0Consumed (s : State) (e : EpStage) (rest : List Turn) : State :=
  { s.sqTurn rest with
    ep0_owed := e.ep0Next.toList
    flags := (s.flags.put e.ep0Flag true).put e.ep0Flag false }

/-- A completion that comes at once ends SQ's wait for it. -/
theorem runPorts_ep0Event {e : EpStage} {k : State → State} (hr : s.refused = none)
    (hs : s.schedule = .env e.ep0Event :: .sq false :: rest) (hl : s.link_started = true) (ho : s.ep0_owed = [e])
    (hq : s.seq_state = .run .setup) (hc : s.ctl_state = .dataIn)
    (hw : ∀ u : State, u.ctl_phase = s.ctl_phase → dataStep u = waitFlag e.ep0Flag u k)
    (hk : (k (s.ep0Consumed e rest)).emitted = []) : runPorts 2 s = some ([], k (s.ep0Consumed e rest)) := by
  have hwait : step { s.envTurn (.sq false :: rest) with
      ep0_owed := e.ep0Next.toList, flags := s.flags.put e.ep0Flag true } = .next (k (s.ep0Consumed e rest)) :=
    step_dataWait ⟨hr, .inl rfl⟩ hq hc (hw _ rfl) (Flags.get_put_self ..)
  have hrun := runPorts_succ (step_ep0Event ⟨hr, hs⟩ hl ho) (runPorts_succ (k := 0) (es := []) hwait rfl)
  rwa [hk] at hrun

/-! ### One packet (R213 to R216) -/

/-- SQ stands at STAGE with a reply to send, and nothing is owed for an earlier packet. -/
structure State.AtStage (s : State) (id : DescId) : Prop extends s.Replying id where
  running : s.refused = none
  service : s.seq_state = .run .setup
  dataIn : s.ctl_state = .dataIn
  stage : s.ctl_phase = .stage
  linked : s.link_started = true
  quiet : s.ep0_owed = []

/-- `s` after its next packet and the packet's three completions, before what follows them; `buf` and `flags` are what EP0's
buffer and the flags hold by then. -/
def State.packetSent (s : State) (id : DescId) (rest : List Turn) (buf : Vector Byte 64) (flags : Flags) : State :=
  { s.sqTurn rest with
    ep0_buf := buf
    flags := flags
    ep0_len := BitVec.ofNat 7 (s.nextPacket id).length
    ctl_phase := .waitDataDone
    ep0_owed := [] }

/-- What follows a packet drives no port (R216). -/
theorem State.packetDone_emitted (s : State) : s.packetDone.emitted = s.emitted :=
  (congrArg State.emitted s.packetDone_frame).trans rfl

/-- The six turns after STAGE in which the completions of the packet in flight come at once drive no port. -/
theorem runPorts_completions (hr : s.refused = none) (hs : s.schedule = packetTurns.tail ++ rest)
    (hl : s.link_started = true) (ho : s.ep0_owed = [.started]) (hq : s.seq_state = .run .setup)
    (hc : s.ctl_state = .dataIn) (hp : s.ctl_phase = .waitStarted) :
    ∃ flags, runPorts 6 s = some ([], State.packetDone { s.sqTurn rest with
      flags := flags, ctl_phase := .waitDataDone, ep0_owed := [] }) := by
  let afterStarted : State :=
    { s.ep0Consumed .started (packetTurns.drop 3 ++ rest) with ctl_phase := .waitEnded }
  let afterEnded : State :=
    { afterStarted.ep0Consumed .ended (packetTurns.drop 5 ++ rest) with ctl_phase := .waitDataDone }
  have hstarted : runPorts 2 s = some ([], afterStarted) :=
    runPorts_ep0Event (e := .started) (k := fun t => { t with ctl_phase := .waitEnded }) hr hs hl ho hq hc
      (fun _ hu => dataStep_waitStarted (hu.trans hp)) rfl
  have hended : runPorts 2 afterStarted = some ([], afterEnded) :=
    runPorts_ep0Event (e := .ended) (k := fun t => { t with ctl_phase := .waitDataDone }) hr rfl hl rfl hq hc
      (fun _ => dataStep_waitEnded) rfl
  have hdone := runPorts_ep0Event (e := .dataDone) (s := afterEnded) (rest := rest) hr rfl hl rfl hq hc
    (fun _ => dataStep_waitDataDone) (State.packetDone_emitted _)
  exact ⟨_, runPorts_add hstarted (runPorts_add hended hdone)⟩

/-- The seven turns of a packet that the environment completes at once hand the packet to EP0, and drive no other port. -/
theorem State.AtStage.runPorts_packet (h : s.AtStage id) (hs : s.schedule = packetTurns ++ rest) :
    ∃ buf flags, runPorts 7 s =
      some ([.epInStart .ep0 (s.nextPacket id)], (s.packetSent id rest buf flags).packetDone) := by
  have hstage := h.step_stage ⟨h.running, .inl hs⟩ h.service h.dataIn h.stage
  obtain ⟨flags, hrun⟩ := runPorts_completions (rest := rest)
    (s := (s.sqTurn (packetTurns.tail ++ rest)).ep0Sending (s.nextPacket id) h.nextPacket_fits) h.running rfl h.linked
    (congrArg (· ++ [EpStage.started]) h.quiet) h.service h.dataIn rfl
  exact ⟨_, flags, runPorts_succ hstage hrun⟩

/-! ### The whole reply (R212, R252) -/

/-- The bytes of the reply from the offset on. -/
def State.replyLeft (s : State) (id : DescId) : List Byte :=
  ((descRom s.cfg id).drop s.reply_off.toNat).take (s.reply_len.toNat - s.reply_off.toNat)

/-- How many packets SQ sends from STAGE on at offset `off` of a reply: full ones and a last one for the bytes, and a
zero-length one when it is pending; at the end of the reply STAGE is there for the zero-length one. -/
def packetsFrom (len off : Half) (zlp : Bool) : Nat :=
  if off.toNat < len.toNat then (len.toNat - off.toNat + 63) / 64 + (if zlp then 1 else 0) else 1

/-- A run of `k` packets hands EP0 exactly `bytes`, drives no other port, and ends in the status stage with nothing owed and
`rest` to come. -/
def State.SendsReply (s : State) (k : Nat) (bytes : List Byte) (rest : List Turn) : Prop :=
  ∃ es t, runPorts (7 * k) s = some (es, t) ∧ ep0Bytes es = bytes ∧ es.length = k ∧
    (∀ e ∈ es, ∃ b, e = .epInStart .ep0 b ∧ b.length ≤ 64) ∧ t.ctl_state = .status ∧
    t.seq_state = .run .setup ∧ t.schedule = rest ∧ t.ep0_owed = []

theorem State.SendsReply.nil (hc : s.ctl_state = .status) (hq : s.seq_state = .run .setup) (ho : s.ep0_owed = []) :
    s.SendsReply 0 [] s.schedule := ⟨[], s, rfl, rfl, rfl, nofun, hc, hq, rfl, ho⟩

theorem State.SendsReply.cons {k : Nat} {b bytes : List Byte} (h : t.SendsReply k bytes rest)
    (hb : b.length ≤ 64) (hs : runPorts 7 s = some ([.epInStart .ep0 b], t)) :
    s.SendsReply (k + 1) (b ++ bytes) rest := by
  obtain ⟨es, u, hrun, hbytes, hlen, hports, hend⟩ := h
  have hcons : runPorts (7 * (k + 1)) s = some (.epInStart .ep0 b :: es, u) := by
    rw [Nat.mul_succ, Nat.add_comm]
    exact runPorts_add hs hrun
  refine ⟨_, u, hcons, congrArg (b ++ ·) hbytes, congrArg Nat.succ hlen, ?_, hend⟩
  intro e he
  rcases List.mem_cons.mp he with rfl | he
  · exact ⟨b, rfl, hb⟩
  · exact hports e he

/-- The offset after a packet of the reply. -/
theorem State.AtStage.toNat_sentOff (h : s.AtStage id) (rest : List Turn) (buf : Vector Byte 64) (flags : Flags) :
    (s.packetSent id rest buf flags).sentOff.toNat =
      s.reply_off.toNat + packetSize s.reply_len s.reply_off := by
  have hsize : (s.packetSent id rest buf flags).ep0_len.toNat = packetSize s.reply_len s.reply_off := by
    rw [← h.length_nextPacket]
    exact toNat_packetLength (by simpa using h.nextPacket_fits)
  have hrest := packetSize_le_rest s.reply_len s.reply_off
  have hoff := h.off
  have hlen := s.reply_len.isLt
  rw [← hsize]
  refine State.toNat_sentOff ?_
  rw [hsize]
  show s.reply_off.toNat + _ < 65536
  omega

/-- A packet and the bytes after it are the bytes of the reply that were left. -/
theorem State.nextPacket_append (s : State) (id : DescId) {off : Nat}
    (ho : off = s.reply_off.toNat + packetSize s.reply_len s.reply_off) :
    s.nextPacket id ++ ((descRom s.cfg id).drop off).take (s.reply_len.toNat - off) = s.replyLeft id := by
  have hrest := packetSize_le_rest s.reply_len s.reply_off
  have hcut : s.reply_len.toNat - s.reply_off.toNat =
      packetSize s.reply_len s.reply_off + (s.reply_len.toNat - off) := by omega
  rw [State.replyLeft, hcut, List.take_add, List.drop_drop, ← ho, State.nextPacket]

/-- While bytes remain after it, a packet is a full one, and one fewer is left (R213, R216). -/
theorem packetsFrom_of_more {len off off' : Half} (zlp : Bool) (hlt : off'.toNat < len.toNat)
    (ho : off'.toNat = off.toNat + packetSize len off) : packetsFrom len off zlp = packetsFrom len off' zlp + 1 := by
  have hsize : packetSize len off = min 64 (len.toNat - off.toNat) := rfl
  rw [packetsFrom, packetsFrom, if_pos hlt, if_pos (by omega)]
  omega

/-- With the last byte in the next packet, what is left is this packet and the zero-length one that is pending (R216). -/
theorem packetsFrom_of_end {len off : Half} {zlp : Bool} (hle : len.toNat ≤ off.toNat + packetSize len off)
    (hopen : off.toNat < len.toNat ∨ zlp = false) : packetsFrom len off zlp = (if zlp then 1 else 0) + 1 := by
  have hsize : packetSize len off = min 64 (len.toNat - off.toNat) := rfl
  by_cases hlt : off.toNat < len.toNat
  · rw [packetsFrom, if_pos hlt]
    omega
  · rw [packetsFrom, if_neg hlt, hopen.resolve_left hlt]
    rfl

theorem packetsFrom_pos (len off : Half) (zlp : Bool) : 0 < packetsFrom len off zlp := by
  unfold packetsFrom
  split <;> omega

/-- From STAGE with bytes left, or at the end of the reply with no further zero-length packet to come, the data stage sends
what is left of the reply: by induction on the packets, each of them with the three cases of R216. -/
theorem State.AtStage.sendsReply (h : s.AtStage id)
    (hopen : s.reply_off.toNat < s.reply_len.toNat ∨ s.zlp_pending = false) {k : Nat}
    (hk : packetsFrom s.reply_len s.reply_off s.zlp_pending = k) (hs : s.schedule = packetsTurns k ++ rest) :
    s.SendsReply k (s.replyLeft id) rest := by
  induction k generalizing s with
  | zero => exact absurd hk (packetsFrom_pos ..).ne'
  | succ k ih =>
    obtain ⟨buf, flags, hrun⟩ := h.runPorts_packet (hs.trans (List.append_assoc ..))
    have hoff := h.toNat_sentOff (packetsTurns k ++ rest) buf flags
    have hle : s.reply_off.toNat + packetSize s.reply_len s.reply_off ≤ s.reply_len.toNat := by
      have hrest := packetSize_le_rest s.reply_len s.reply_off
      have hin := h.off
      omega
    have hfit : (s.nextPacket id).length ≤ 64 := by simpa using h.nextPacket_fits
    rw [← s.nextPacket_append id hoff]
    refine State.SendsReply.cons ?_ hfit hrun
    let sent : State := s.packetSent id (packetsTurns k ++ rest) buf flags
    by_cases hmore : sent.sentOff.toNat < s.reply_len.toNat
    · rw [State.packetDone_more (s := sent) hmore]
      refine ih (s := { sent with reply_off := sent.sentOff, ctl_phase := .stage })
        ⟨⟨h.src, hmore.le, h.len⟩, h.running, h.service, h.dataIn, rfl, h.linked, rfl⟩ (.inl hmore) ?_ rfl
      exact Nat.succ.inj ((packetsFrom_of_more s.zlp_pending hmore hoff).symm.trans hk)
    have hend := Nat.not_lt.mp hmore
    rw [packetsFrom_of_end (hoff ▸ hend) hopen] at hk
    cases hz : s.zlp_pending with
    | true =>
      rw [State.packetDone_zlp (s := sent) hend hz]
      refine ih (s := { sent with reply_off := sent.sentOff, zlp_pending := false, ctl_phase := .stage })
        ⟨⟨h.src, hoff.le.trans hle, h.len⟩, h.running, h.service, h.dataIn, rfl, h.linked, rfl⟩ (.inr rfl) ?_ rfl
      rw [hz] at hk
      exact (if_neg hmore).trans (Nat.succ.inj hk)
    | false =>
      obtain rfl : k = 0 := by simpa [hz] using hk.symm
      rw [State.packetDone_last (s := sent) hend hz, Nat.sub_eq_zero_of_le hend, List.take_zero]
      exact State.SendsReply.nil (s := { sent with reply_off := sent.sentOff, ctl_state := .status }) rfl h.service rfl

/-- Settles O37: the whole reply is what is left at the offset 0. -/
theorem dataStageSendsThePrefix : Obligations.DataStageSendsThePrefix := by
  intro s id k rest hr hq hc hp hl hi hoff hpos hlen ho hk hs
  have hstage : s.AtStage id := ⟨⟨hi, by omega, hlen⟩, hr, hq, hc, hp, hl, ho⟩
  have hleft : packetsFrom s.reply_len s.reply_off s.zlp_pending = k := by
    rw [packetsFrom, hoff, if_pos hpos, Nat.sub_zero, hk]
  have hall : s.replyLeft id = (descRom s.cfg id).take s.reply_len.toNat := by
    rw [State.replyLeft, hoff, Nat.sub_zero, List.drop_zero]
  rw [← hall]
  exact hstage.sendsReply (.inl (by omega)) hleft hs

end Sys2Proof.Machine
end

section
/-! PROOFS. The abort step and the moves of `ctl_state` (43_usb_control.md R200 to R202, R205, R207): where SQ may end a
transfer at a wait, along which rows of the table a step moves `ctl_state`, and that service 2 runs until the transfer is
over. -/

namespace Sys2Proof.Machine

variable {s t : State} {rest : List Turn}

/-! ### The abort step (R207) -/

/-- A step of SQ with a next state, of whichever kind it is. -/
theorem step_of_sqStep_next (hm : s.sqMoves rest) (hq : sqStep false (s.passed rest) = some (.next t)) :
    step s = .next t := by
  obtain ⟨hr, hs | ⟨hs, rfl⟩⟩ := hm
  · rw [step_cons hs, turnStep, hq, Option.getD_some, State.passed_attempt_of_none _ hr, State.settle_next]
  · rw [step_nil hs, hq, Option.getD_some, State.passed_attempt_of_none _ hr, State.settle_next]

/-- The abort step ends the transfer, and service 2 returns (R205, R207). -/
theorem abortStep_eq (s : State) :
    abortStep s = .next { s with ctl_state := .idle, ctl_phase := .stage, seq_state := .poll .epOut } := rfl

/-- With the abort step open a turn that prefers it takes it. -/
theorem step_abort_preferred (hr : s.refused = none) (hs : s.schedule = .sq true :: rest)
    (ha : (s.sqTurn rest).mayAbort = true) :
    step s = .next { s.sqTurn rest with ctl_state := .idle, ctl_phase := .stage, seq_state := .poll .epOut } := by
  rw [step_cons hs, turnStep, sqStep_passed, ha, Bool.and_true, if_pos rfl, Option.getD_some,
    State.passed_attempt_of_none _ hr, abortStep_eq, State.settle_next]

/-- With the abort step open SQ takes it when it is its only step. -/
theorem step_abort_held (hm : s.sqMoves rest) (ha : (s.sqTurn rest).mayAbort = true)
    (hn : sqMain (s.sqTurn rest) = none) :
    step s = .next { s.sqTurn rest with ctl_state := .idle, ctl_phase := .stage, seq_state := .poll .epOut } := by
  refine step_of_sqStep_next hm ?_
  rw [sqStep_passed, hn, ha, Bool.false_and, if_neg Bool.false_ne_true]
  rfl

/-- With the abort step not open, the preference for it is void. -/
theorem step_abort_void (hs : s.schedule = .sq true :: rest) (ha : (s.sqTurn rest).mayAbort = false) :
    step s = step { s with schedule := .sq false :: rest } := by
  have hsame : sqStep true (s.passed rest) = sqStep false (s.passed rest) := by
    rw [sqStep_passed, sqStep_passed, ha, Bool.and_false, Bool.and_false]
  rw [step_cons hs, turnStep, hsame]
  exact (step_cons (s := { s with schedule := .sq false :: rest }) rfl).symm

/-- Settles O41: the two ways to take the abort step, and its conditions one by one. -/
theorem abortOnlyWhereAllowed : Obligations.AbortOnlyWhereAllowed := by
  refine ⟨fun s rest hr hs hcfg hf hq hc hp => ?_, fun s rest hm hcfg hf hq hc hw => ?_, fun s rest hs hne => ?_⟩
  · exact step_abort_preferred hr hs ((State.mayAbort_iff _).mpr ⟨hcfg, hf, hq, hc, hp⟩)
  · obtain ⟨f, hawaits, hclear⟩ : ∃ f, s.ctl_phase.awaits = some f ∧ s.flag f = false := by
      rcases hw with ⟨hp, hw⟩ | ⟨hp, hw⟩ | ⟨hp, hw⟩ <;> rw [hp] <;> exact ⟨_, rfl, hw⟩
    have hp : s.ctl_phase ≠ .stage := fun hp => by rw [hp] at hawaits; cases hawaits
    exact step_abort_held hm ((State.mayAbort_iff _).mpr ⟨hcfg, hf, hq, hc, hp⟩)
      (sqMain_none_dataIn (s := s.sqTurn rest) hq hc hawaits hclear)
  · refine step_abort_void hs ?_
    rw [← Bool.not_eq_true, State.mayAbort_iff]
    rintro ⟨hcfg, hf, hq, hc, hp⟩
    rcases hne with h | h | h | h | h
    · exact absurd hcfg (by simp [h])
    · exact absurd hf (by simp [h])
    · exact h hq
    · exact h hc
    · exact hp h

/-! ### What a request leads to (R200, R208, R251) -/

/-- What performing a request answers, by the lines of R200 that leave SETUP_DECODED. -/
inductive RequestOutcome (r : Request) (s : State) : Result → Prop
  | acknowledged (t : State) (ha : acknowledgedAtOnce r) (hc : t.ctl_state = .status) : RequestOutcome r s (.next t)
  | served (id : DescId) (he : servedEntry r = some id) : RequestOutcome r s (.next (replyFrom id r.wLength s))
  | stalled (c : LogEntry) (ha : ¬ acknowledgedAtOnce r) (he : servedEntry r = none) :
    RequestOutcome r s (.next (s.stall c))

/-- A row of one index serves its entry at index 0 and stalls at any other (R253). -/
theorem serveIndexZero_outcome {r : Request} {id : DescId} (ty : Byte) (s : State) (ha : ¬ acknowledgedAtOnce r)
    (he : servedEntry r = if r.descIndex = 0 then some id else none) :
    RequestOutcome r s (serveIndexZero ty id r.descIndex r.wLength s) := by
  by_cases hz : r.descIndex = 0
  · rw [serveIndexZero, if_pos hz]
    exact .served id (he.trans (if_pos hz))
  · rw [serveIndexZero, if_neg hz]
    exact .stalled _ ha (he.trans (if_neg hz))

/-- Indexes 0, 1 and 2 name strings, and any other stalls (R256). -/
theorem getDescriptorString_outcome {r : Request} (s : State) (hr : r.row = .getDescriptorString)
    (ha : ¬ acknowledgedAtOnce r) :
    RequestOutcome r s (execGetDescriptorString r.descIndex r.wIndex r.wLength s) := by
  have he : servedEntry r = if r.descIndex = 0 then some .str0 else if r.descIndex = 1 then some .str1
      else if r.descIndex = 2 then some .str2 else none := by rw [servedEntry, hr]
  unfold execGetDescriptorString
  split
  · next h0 => exact .served .str0 (he.trans (if_pos h0))
  next h0 =>
  rw [if_neg h0] at he
  split
  · next h1 => exact .served .str1 (he.trans (if_pos h1))
  next h1 =>
  rw [if_neg h1] at he
  split
  · next h2 => exact .served .str2 (he.trans (if_pos h2))
  · next h2 => exact .stalled _ ha (he.trans (if_neg h2))

/-- Every request is acknowledged at once, served or stalled, by its row (R87, R251). -/
theorem exec_decodeRequest_outcome (r : Request) (s : State) : RequestOutcome r s (exec (decodeRequest r) s) := by
  rw [decodeRequest]
  cases hr : r.row with
  | setAddress => exact .acknowledged _ (.inl hr) rfl
  | clearFeature => exact .acknowledged _ (.inr (.inl hr)) rfl
  | setIdle => exact .acknowledged _ (.inr (.inr (.inl hr))) rfl
  | setConfiguration =>
    by_cases hv : r.wValue = CONFIG_VALUE
    · rw [Request.toInstr, exec_setConfiguration_accepted _ _ _ _ hv]
      exact .acknowledged _ (.inr (.inr (.inr ⟨hr, hv⟩))) rfl
    · rw [Request.toInstr, exec_setConfiguration_stalls _ _ _ _ hv]
      exact .stalled _ (by simp [acknowledgedAtOnce, hr, hv]) (by rw [servedEntry, hr])
  | getDescriptorDevice =>
    exact serveIndexZero_outcome 0x01 s (by simp [acknowledgedAtOnce, hr]) (by rw [servedEntry, hr])
  | getDescriptorConfiguration =>
    exact serveIndexZero_outcome 0x02 s (by simp [acknowledgedAtOnce, hr]) (by rw [servedEntry, hr])
  | getDescriptorReport =>
    exact serveIndexZero_outcome 0x22 s (by simp [acknowledgedAtOnce, hr]) (by rw [servedEntry, hr])
  | getDescriptorString => exact getDescriptorString_outcome s hr (by simp [acknowledgedAtOnce, hr])
  | getDescriptorDeviceQualifier => exact .stalled _ (by simp [acknowledgedAtOnce, hr]) (by rw [servedEntry, hr])
  | getDescriptorOther => exact .stalled _ (by simp [acknowledgedAtOnce, hr]) (by rw [servedEntry, hr])
  | unmatched => exact .stalled _ (by simp [acknowledgedAtOnce, hr]) (by rw [servedEntry, hr])

/-! ### The rows of R200 -/

/-- A step that leaves `ctl_state` alone is none of the rows. -/
theorem ctlTable_of_eq (h : t.ctl_state = s.ctl_state) : ctlTable s t := by
  cases hc : s.ctl_state <;> simp [ctlTable, hc, h]

theorem ctlTable_of_ep0Part (h : t.ep0Part = s.ep0Part) : ctlTable s t :=
  ctlTable_of_eq (congrArg (fun p => p.2.1) h)

/-- Service 2's return moves the service only (R205). -/
theorem State.serviceReturn_frame (s : State) :
    s.serviceReturn = { s with seq_state := s.serviceReturn.seq_state } := by
  unfold State.serviceReturn
  split <;> rfl

/-- A request moves `ctl_state` from SETUP_DECODED to STATUS, DATA_IN or STALLED. -/
theorem RequestOutcome.ctlTable (h : RequestOutcome s.req s (.next t)) (hc : s.ctl_state = .setupDecoded) :
    ctlTable s t := by
  cases h with
  | acknowledged _ ha ht => simp only [Machine.ctlTable, hc, ht]; exact .inl ha
  | served id he =>
    by_cases hl : replyLen (descRom s.cfg id).length s.req.wLength = 0
    · rw [replyFrom_empty hl]
      simp only [Machine.ctlTable, hc]
      exact .inr ⟨id, he, rfl, hl⟩
    · rw [replyFrom_data hl]
      simp only [Machine.ctlTable, hc]
      exact ⟨id, he, rfl, hl, trivial⟩
  | stalled c ha he => simp only [Machine.ctlTable, hc, State.stall_ctl_state]; exact ⟨ha, he⟩

/-- The end of a packet moves `ctl_state` to STATUS exactly when nothing is left to send (R216). -/
theorem ctlTable_packetDone (hc : s.ctl_state = .dataIn) (hp : s.ctl_phase = .waitDataDone)
    (hf : s.flag .ep0DataDone = true) : ctlTable s (s.clearFlag .ep0DataDone).packetDone := by
  by_cases hmore : s.sentOff.toNat < s.reply_len.toNat
  · rw [State.packetDone_more (s := s.clearFlag .ep0DataDone) hmore]
    exact ctlTable_of_eq rfl
  have hle := Nat.not_lt.mp hmore
  cases hz : s.zlp_pending with
  | true =>
    rw [State.packetDone_zlp (s := s.clearFlag .ep0DataDone) hle hz]
    exact ctlTable_of_eq rfl
  | false =>
    rw [State.packetDone_last (s := s.clearFlag .ep0DataDone) hle hz]
    simp only [ctlTable, hc]
    exact ⟨hp, hf, hle, hz⟩

/-- Every move of SQ is along the rows of R200. -/
theorem SqMove.ctlTable (m : SqMove s t) : ctlTable s t := by
  cases m with
  | boot n t hq hm => exact ctlTable_of_ep0Part ((t.bootAdvance_ep0Part n).trans hm.ep0Part)
  | decode hq hc => rcases hc with hc | hc <;> simp only [Machine.ctlTable, hc] <;> exact hq
  | dispatch t hq hc he =>
    have hreq := exec_decodeRequest_outcome s.req s
    rw [he] at hreq
    rw [State.serviceReturn_frame]
    exact hreq.ctlTable hc
  | dataDone hq hc hp hf => exact ctlTable_packetDone hc hp hf
  | status hq hc => simp only [Machine.ctlTable, hc]
  | hook k h t hq hk hm => exact ctlTable_of_ep0Part hm.ep0Part
  | accumulate t hq hr he =>
    exact ctlTable_of_ep0Part (t.detentOrReturn_ep0Part.trans (execRotAccumulate_ep0Part he))
  | _ => exact ctlTable_of_eq rfl

/-- The abort step is the row from DATA_IN to IDLE (R207). -/
theorem ctlTable_abort (hm : s.mayAbort = true) :
    ctlTable s (State.serviceReturn { s with ctl_state := .idle, ctl_phase := .stage }) := by
  obtain ⟨hcfg, hf, -, hc, hp⟩ := s.mayAbort_iff.mp hm
  rw [State.serviceReturn_frame]
  simp only [ctlTable, hc]
  exact ⟨hcfg, hf, hp⟩

/-- No event moves `ctl_state` or `seq_state` (R49). -/
theorem envStep_stands {e : EnvEvent} (he : envStep e s = .next t) :
    t.ctl_state = s.ctl_state ∧ t.seq_state = s.seq_state := by
  obtain ⟨-, ⟨f, -, rfl⟩ | ⟨d, -, hp⟩ | ⟨-, rfl⟩⟩ := envStep_cases he
  · exact ⟨envData_ctl_state s e, envData_seq_state s e⟩
  · rcases execRotPulse_cases hp with ht | rfl
    · rw [ht]
      exact ⟨envData_ctl_state s e, envData_seq_state s e⟩
    · exact ⟨envData_ctl_state s e, envData_seq_state s e⟩
  · exact ⟨envData_ctl_state s e, envData_seq_state s e⟩

/-- Settles O39: by the kind of the step. -/
theorem controlStateMovesByTheTable : Obligations.ControlStateMovesByTheTable := by
  intro s t hs hn
  rcases step_moves hs with ⟨u, chip, rest, h, -⟩ | ⟨e, rest, -, he⟩ | ⟨a, rest, -, -, ⟨hm, rfl⟩ | hm⟩ |
    ⟨rest, -, -, rfl⟩ | ⟨tn, rest, r, -, -, -, -, rfl⟩
  · exact absurd h (hn u chip rest)
  · exact ctlTable_of_eq (envStep_stands he).1
  · exact ctlTable_abort (s := s.sqTurn rest) hm
  · exact hm.ctlTable
  · exact ctlTable_of_eq rfl
  · exact ctlTable_of_eq rfl

/-! ### Service 2 runs until the transfer is over (R202) -/

/-- SQ is in service 2, or has just left it with the transfer over. -/
def State.inTransferOrOver (s : State) : Prop :=
  s.seq_state = .run .setup ∨ (s.seq_state = .poll .epOut ∧ (s.ctl_state = .idle ∨ s.ctl_state = .stalled))

theorem State.serviceReturn_inTransferOrOver (hq : s.seq_state = .run .setup) : s.serviceReturn.inTransferOrOver := by
  rw [State.serviceReturn_eq_ite]
  split
  · next hover => exact .inr ⟨rfl, hover⟩
  · exact .inl hq

theorem RequestMove.seq_state (m : RequestMove s t) : t.seq_state = s.seq_state := by
  cases m with
  | replied id l =>
    by_cases hl : replyLen (descRom s.cfg id).length l = 0
    · rw [replyFrom_empty hl]
    · rw [replyFrom_data hl]
  | _ => rfl

/-- Every move of SQ in service 2 stays there, or ends the transfer (R205). -/
theorem SqMove.inTransferOrOver (m : SqMove s t) (hs : s.seq_state = .run .setup) : t.inTransferOrOver := by
  cases m with
  | dispatch t hq hc he =>
    exact State.serviceReturn_inTransferOrOver ((exec_request_move he).seq_state.trans hs)
  | dataDone hq hc hp hf => exact .inl ((congrArg State.seq_state (State.packetDone_frame _)).trans hs)
  | status hq hc => exact .inr ⟨rfl, .inl rfl⟩
  | hook k h t hq hk hm =>
    obtain rfl : k = .setup := SeqState.run.inj (hq.symm.trans hs)
    simp at hk
  | decode hq hc => exact .inl hs
  | stage id bytes hl hq hc hp hi hr => exact .inl hs
  | started hq hc hp hf => exact .inl hs
  | ended hq hc hp hf => exact .inl hs
  | boot n t hq hm => cases hq.symm.trans hs
  | wake hq hw => cases hq.symm.trans hs
  | pollHit k hq hf => cases hq.symm.trans hs
  | pollMiss k hq hf => cases hq.symm.trans hs
  | link hq => cases hq.symm.trans hs
  | sample hq hr => cases hq.symm.trans hs
  | accumulate t hq hr he => cases hq.symm.trans hs

/-- Settles O40: by the kind of the step. -/
theorem transferHoldsTheSequencer : Obligations.TransferHoldsTheSequencer := by
  intro s t hs hn hq
  rcases step_moves hs with ⟨u, chip, rest, h, -⟩ | ⟨e, rest, -, he⟩ | ⟨a, rest, -, -, ⟨hm, rfl⟩ | hm⟩ |
    ⟨rest, -, -, rfl⟩ | ⟨tn, rest, r, -, -, -, -, rfl⟩
  · exact absurd h (hn u chip rest)
  · exact .inl ((envStep_stands he).2.trans hq)
  · exact State.serviceReturn_inTransferOrOver hq
  · exact hm.inTransferOrOver hq
  · exact .inl hq
  · exact .inl hq

end Sys2Proof.Machine
end

section
/-! PROOFS. The descriptor dispatcher (44_usb_descriptors.md R252 to R259, 43_usb_control.md R212, R240): what each
GET_DESCRIPTOR row does at a legal and at an illegal index, and what a reply leaves in the state; and the default
descriptors (R260 to R272). -/

namespace Sys2Proof.Machine

/-! ### The rows (R253 to R259) -/

/-- At index 0 a row of one index replies with its entry (R252). -/
theorem serveIndexZero_served (ty : Byte) (id : DescId) (l : Half) (s : State) :
    serveIndexZero ty id 0 l s = .next (replyFrom id l s) := if_pos rfl

/-- At any other index it stalls (R253). -/
theorem serveIndexZero_stalls (ty : Byte) (id : DescId) {n : Byte} (l : Half) (s : State) (h : n.toNat ≠ 0) :
    serveIndexZero ty id n l s = .next (s.stall (.stallBadDescIndex ty n)) :=
  if_neg (mt (congrArg BitVec.toNat) h)

theorem exec_getDescriptorDevice (n : Byte) (x l : Half) (s : State) :
    exec (.getDescriptorDevice n x l) s = serveIndexZero 0x01 .dev n l s := rfl

theorem exec_getDescriptorConfiguration (n : Byte) (x l : Half) (s : State) :
    exec (.getDescriptorConfiguration n x l) s = serveIndexZero 0x02 .cfg n l s := rfl

theorem exec_getDescriptorReport (n : Byte) (x l : Half) (s : State) :
    exec (.getDescriptorReport n x l) s = serveIndexZero 0x22 .rpt n l s := rfl

/-- Indexes 0, 1 and 2 name the three strings (R256). -/
theorem exec_getDescriptorString_served (x l : Half) (s : State) :
    exec (.getDescriptorString 0 x l) s = .next (replyFrom .str0 l s) ∧
      exec (.getDescriptorString 1 x l) s = .next (replyFrom .str1 l s) ∧
      exec (.getDescriptorString 2 x l) s = .next (replyFrom .str2 l s) := ⟨rfl, rfl, rfl⟩

/-- No further index names a string (R253, R256). -/
theorem exec_getDescriptorString_stalls {n : Byte} (x l : Half) (s : State) (h : 3 ≤ n.toNat) :
    exec (.getDescriptorString n x l) s = .next (s.stall (.stallBadDescIndex 0x03 n)) := by
  have hne (k : Byte) (hk : k.toNat < 3) : n ≠ k := fun e => absurd (e ▸ h) (Nat.not_le.mpr hk)
  rw [exec, execGetDescriptorString, if_neg (hne 0 (by decide)), if_neg (hne 1 (by decide)), if_neg (hne 2 (by decide))]

theorem exec_getDescriptorDeviceQualifier (n : Byte) (x l : Half) (s : State) :
    exec (.getDescriptorDeviceQualifier n x l) s = .next (s.stall (.stallUnsupportedDesc 0x06 0)) := rfl

theorem exec_getDescriptorOther (rc : BitVec 1) (ty n : Byte) (x l : Half) (s : State) :
    exec (.getDescriptorOther rc ty n x l) s = .next (s.stall (.stallUnsupportedDesc ty (rc.setWidth 5))) := rfl

/-- The stall as a change of four fields (R240). -/
theorem State.stall_eq (s : State) (cause : LogEntry) : s.stall cause = { s with
    emitted := s.emitted ++ [.ep0Stall], fault_led := true, ctl_state := .stalled
    fault_log := s.fault_log ++ [cause] } := rfl

/-! ### The reply (R212, R252) -/

theorem toNat_replyLen (n : Nat) (w : Half) : (replyLen n w).toNat = min n w.toNat := by
  have hw := w.isLt
  rw [replyLen, BitVec.toNat_ofNat]
  omega

theorem zlpNeeded_iff {c : Config} {len w : Half} :
    zlpNeeded c len w = true ↔ c.ZLP_ENABLE = true ∧ len.toNat % 64 = 0 ∧ len.toNat < w.toNat := by
  simp only [zlpNeeded, Bool.and_eq_true, decide_eq_true_eq, and_assoc]
  rw [EP0_MPS]

theorem replyFrom_reply_src (id : DescId) (l : Half) (s : State) : (replyFrom id l s).reply_src = some id := by
  by_cases hl : replyLen (descRom s.cfg id).length l = 0
  · rw [replyFrom_empty hl]
  · rw [replyFrom_data hl]

theorem replyFrom_reply_len (id : DescId) (l : Half) (s : State) :
    (replyFrom id l s).reply_len = replyLen (descRom s.cfg id).length l := by
  by_cases hl : replyLen (descRom s.cfg id).length l = 0
  · rw [replyFrom_empty hl]
  · rw [replyFrom_data hl]

/-- Settles O20: each row replies from its entry, and the reply has no byte or enters the data stage. -/
theorem servedDescriptorReply : Obligations.ServedDescriptorReply := by
  intro i id x l s hi
  have hexec : exec i s = .next (replyFrom id l s) := by
    obtain ⟨h0, h1, h2⟩ := exec_getDescriptorString_served x l s
    rcases hi with ⟨rfl, rfl⟩ | ⟨rfl, rfl⟩ | ⟨rfl, rfl⟩ | ⟨rfl, rfl⟩ | ⟨rfl, rfl⟩ | ⟨rfl, rfl⟩
    · rw [exec_getDescriptorDevice, serveIndexZero_served]
    · rw [exec_getDescriptorConfiguration, serveIndexZero_served]
    · exact h0
    · exact h1
    · exact h2
    · rw [exec_getDescriptorReport, serveIndexZero_served]
  have hlen := replyFrom_reply_len id l s
  refine ⟨replyFrom id l s, hexec, replyFrom_reply_src id l s, hlen ▸ toNat_replyLen _ _, fun hz => ?_, fun hn => ?_⟩
  · have hl : replyLen (descRom s.cfg id).length l = 0 := BitVec.eq_of_toNat_eq (hlen ▸ hz)
    rw [replyFrom_empty hl]
    exact ⟨rfl, rfl⟩
  · have hl : replyLen (descRom s.cfg id).length l ≠ 0 := fun e => hn (congrArg BitVec.toNat (hlen.trans e))
    rw [replyFrom_data hl]
    exact ⟨rfl, rfl, rfl, zlpNeeded_iff, rfl⟩

/-! ### The stalls (R253, R258, R259) -/

/-- Settles O21: each row's stall, at an index beyond its entries. -/
theorem badDescriptorIndexStalls : Obligations.BadDescriptorIndexStalls := by
  intro i ty n x l s hi
  rw [← State.stall_eq]
  rcases hi with ⟨rfl, rfl, h⟩ | ⟨rfl, rfl, h⟩ | ⟨rfl, rfl, h⟩ | ⟨rfl, rfl, h⟩
  · rw [exec_getDescriptorDevice, serveIndexZero_stalls _ _ _ _ h]
  · rw [exec_getDescriptorConfiguration, serveIndexZero_stalls _ _ _ _ h]
  · exact exec_getDescriptorString_stalls x l s h
  · rw [exec_getDescriptorReport, serveIndexZero_stalls _ _ _ _ h]

/-- Settles O22: the recipient logged is the request's bit, in five bits. -/
theorem unsupportedDescriptorStalls : Obligations.UnsupportedDescriptorStalls := fun rc ty n x l s =>
  ⟨exec_getDescriptorDeviceQualifier n x l s, rc.setWidth 5, BitVec.toNat_setWidth_of_le (by decide),
    exec_getDescriptorOther rc ty n x l s⟩

/-! ### The default descriptors (R260 to R272) -/

/-- A byte string whose items declare one good Input and one good Output, and no report ID, may be the report
descriptor (R270). -/
theorem reportDescOk_of_items {bs : List Byte} {items : List HidItem} {i o : HidGlobals}
    (hitems : hidItems bs.length bs = some items) (hd : hidDeclares .unset ⟨[], [], false⟩ items = ⟨[i], [o], false⟩)
    (hi : hidFieldOk i = true) (ho : hidFieldOk o = true) : reportDescOk bs = true := by
  simp [reportDescOk, hitems, hd, hi, ho]

/-- The field R270 asks for, on the page of R272. -/
def defaultField : HidGlobals := ⟨some 0xFF00, some 0, some 999999, some 20, some 2⟩

theorem hidFieldOk_defaultField : hidFieldOk defaultField = true := by decide

/-- The default report descriptor is the items R272 lists. -/
theorem hidItems_default :
    hidItems Config.defaults.REPORT_DESC.length Config.defaults.REPORT_DESC = some defaultItems := by decide

/-- They declare one Input and one Output, each over the same two values (R270). -/
theorem hidDeclares_defaultItems :
    hidDeclares .unset ⟨[], [], false⟩ defaultItems = ⟨[defaultField], [defaultField], false⟩ := by decide

/-- Settles O24: the entries are concrete bytes, and the report descriptor declares what its items do. -/
theorem defaultDescriptorBytes : Obligations.DefaultDescriptorBytes :=
  ⟨rfl, rfl, rfl, rfl, rfl, rfl,
    reportDescOk_of_items hidItems_default hidDeclares_defaultItems hidFieldOk_defaultField hidFieldOk_defaultField⟩

end Sys2Proof.Machine
end

section
/-! PROOFS. The sequencer's polls and SLEEP (60_exceptions.md R302 to R305, R307, R309), and the hooks (R306): what a hook's
step leaves alone, how its commands are marked, and when it ends. -/

namespace Sys2Proof.Machine

variable {s t u : State} {h : Hook} {rest : List Turn}

/-! ### SQ's step in a hook (R306) -/

theorem sqMain_hookMove (hh : s.atHook = some h) (hm : sqMain s = some (.next t)) :
    ∃ u, HookMove h s u ∧ (t = u ∨ ∃ n, h = .boot ∧ t = u.bootAdvance n) := by
  rcases sqMain_atHook hh with ⟨n, -, rfl, hb⟩ | ⟨-, hb⟩
  · rw [hb, bootStep] at hm
    obtain ⟨o, ho, hn⟩ := Option.map_eq_some_iff.mp hm
    obtain ⟨u, rfl, rfl⟩ := afterNext_eq_next hn
    exact ⟨u, hookStep_move ho, .inr ⟨n, rfl, rfl⟩⟩
  · exact ⟨t, hookStep_move (hb ▸ hm), .inl rfl⟩

/-- SQ's step in a hook is a move of the hook, in boot with the counter of commands moved; or SQ is held; or the step marks
the state refused (R301). -/
theorem step_atHook (hm : s.sqMoves rest) (hh : s.atHook = some h) (hs : step s = .next t) :
    (∃ u, HookMove h (s.sqTurn rest) u ∧ (t = u ∨ ∃ n, h = .boot ∧ t = u.bootAdvance n)) ∨
      t = s.passed rest ∨ ∃ r, t = { s.passed rest with refused := some r } := by
  rcases step_sqMoves hm hs with hq | rfl | ⟨r, -, rfl⟩
  · rcases sqStep_cases hq with ⟨ha, -⟩ | hq
    · cases (State.mayAbort_atHook (s := s.sqTurn rest) hh).symm.trans ha
    · exact .inl (sqMain_hookMove (s := s.sqTurn rest) hh hq)
  · exact .inr (.inl rfl)
  · exact .inr (.inr ⟨r, rfl⟩)

/-! ### What a hook leaves alone (R306) -/

/-- From `s` to `t` nothing is written but what the columns "may issue" of R306 allow the hook `h`: the bus, the
interrupt-IN endpoint with its completion flags, the log, and the model's own fields; and HOOK_EPOUT may arm the OUT
buffer. -/
structure HookKeeps (h : Hook) (s t : State) : Prop where
  frame : t = { s with
    flags := t.flags, out_armed := t.out_armed, bus_busy := t.bus_busy, bus_txbuf := t.bus_txbuf
    bus_result := t.bus_result, epin_buf := t.epin_buf, fault_log := t.fault_log, seq_state := t.seq_state
    refused := t.refused, agent := t.agent, cmd := t.cmd, ret_word := t.ret_word, hook_sent := t.hook_sent
    hook_armed := t.hook_armed, draws := t.draws, epin_owed := t.epin_owed, schedule := t.schedule
    oracle := t.oracle, emitted := t.emitted, wave := t.wave }
  flag : ∀ g, g ≠ .busDone → g ≠ .epInStarted → g ≠ .epInEnded → t.flag g = s.flag g
  out_armed : t.out_armed = s.out_armed ∨ (h = .epOut ∧ t.out_armed = true)

theorem XferMove.keeps {after : AfterXfer} (m : XferMove after s t) : HookKeeps h s t := by
  cases m with
  | busy w d hb => exact ⟨rfl, fun _ _ _ _ => rfl, .inl rfl⟩
  | started w hb hk => exact ⟨rfl, fun _ hg _ _ => Flags.get_put_of_ne _ _ hg, .inl rfl⟩

/-- When the contract of R306 lets a hook arm the OUT buffer. -/
theorem hookMay_armOut_iff : hookMay h (.cmd .armOut) s = true ↔ h = .epOut ∧ s.hook_armed = false := by
  cases h <;> simp [hookMay]

/-- When the contract of R306 lets a hook send. -/
theorem hookMay_sendIn_iff {r : Vector Byte 5} :
    hookMay h (.cmd (.sendIn r)) s = true ↔ (h = .key ∨ h = .detent) ∧ s.hook_sent = false := by
  cases h <;> simp [hookMay]

theorem HookMove.keeps (m : HookMove h s t) : HookKeeps h s t := by
  cases m with
  | done o d hc hm => exact ⟨rfl, fun _ _ _ _ => rfl, .inl rfl⟩
  | xfer o d after t hc hx => exact { (hx.keeps : HookKeeps h (s.asked o d) t) with }
  | collect t hc hx => exact hx.keeps
  | sendIn o d r hl hc hm =>
    exact ⟨rfl, fun _ _ hs he => (Flags.get_put_of_ne _ _ he).trans (Flags.get_put_of_ne _ _ hs), .inl rfl⟩
  | armOut o d hc hm => exact ⟨rfl, fun _ _ _ _ => rfl, .inr ⟨(hookMay_armOut_iff.mp hm).1, rfl⟩⟩
  | busDone after hc hf => exact ⟨rfl, fun _ hg _ _ => Flags.get_put_of_ne _ _ hg, .inl rfl⟩
  | inStarted hc hf => exact ⟨rfl, fun _ _ hg _ => Flags.get_put_of_ne _ _ hg, .inl rfl⟩
  | inEnded hc hf => exact ⟨rfl, fun _ _ _ hg => Flags.get_put_of_ne _ _ hg, .inl rfl⟩

/-- The counter of boot's commands is SQ's own (R342). -/
theorem HookKeeps.bootAdvance (k : HookKeeps h s t) (n : Nat) : HookKeeps h s (t.bootAdvance n) := by
  unfold State.bootAdvance
  split
  · exact ⟨congrArg (fun v : State => { v with seq_state := .boot (n + 1) }) k.frame, k.flag, k.out_armed⟩
  · exact k

/-- No step of SQ in a hook writes anything but what R306 allows the hook. -/
theorem step_hookKeeps (hm : s.sqMoves rest) (hh : s.atHook = some h) (hs : step s = .next t) : HookKeeps h s t := by
  rcases step_atHook hm hh hs with ⟨u, mv, rfl | ⟨n, -, rfl⟩⟩ | rfl | ⟨r, rfl⟩
  · exact { mv.keeps with }
  · exact { mv.keeps.bootAdvance n with }
  · exact ⟨rfl, fun _ _ _ _ => rfl, .inl rfl⟩
  · exact ⟨rfl, fun _ _ _ _ => rfl, .inl rfl⟩

/-- Settles O49: the fields of the statement are none that a hook's step may write. -/
theorem hooksLeaveTheRestAlone : Obligations.HooksLeaveTheRestAlone := by
  intro s t rest h hm hh hs
  have hk := step_hookKeeps hm hh hs
  rw [hk.frame]
  exact ⟨rfl, rfl, rfl, rfl, rfl, rfl, rfl, rfl, rfl, rfl, rfl, rfl, rfl, rfl, rfl, hk.flag, hk.out_armed⟩

/-! ### The marks of the hooks' commands (R306, assumption 16) -/

/-- The ports driven are none that a hook's command drives, but for the `epout_arm` of a step outside the hooks (R221). -/
def portsQuiet (k : Option Hook) (es : List Emit) : Prop :=
  (∀ b, .epInStart .epIn b ∉ es) ∧ (.epOutArm ∈ es → k = none)

/-- What a step can do to the marks `armed` and `sent`, by the hook `k` that was running and the ports `es` it drives: keep
them, clear them at a service's entry, or set the mark of a command that it issues. -/
inductive MarkStep (k : Option Hook) (es : List Emit) (armed sent : Bool) : Bool → Bool → Prop
  | kept (hq : portsQuiet k es) : MarkStep k es armed sent armed sent
  | cleared (hk : k = none) (he : es = []) : MarkStep k es armed sent false false
  | armed (hk : k = some .epOut) (ha : armed = false) (he : es = [.epOutArm]) : MarkStep k es armed sent true sent
  | sent (b : List Byte) (hk : k = some .key ∨ k = some .detent) (hs : sent = false) (he : es = [.epInStart .epIn b]) :
      MarkStep k es armed sent armed true

/-- `MarkStep`, for the marks and the ports of a step from `s` to `t`. -/
def State.MarksTo (s t : State) : Prop := MarkStep s.atHook t.emitted s.hook_armed s.hook_sent t.hook_armed t.hook_sent

theorem portsQuiet_of_nil {k : Option Hook} {es : List Emit} (he : es = []) : portsQuiet k es := by
  simp [portsQuiet, he]

/-! What happens after a step of an operation, in the same step of SQ, writes neither the marks nor the ports. -/

theorem State.MarksTo.bootAdvance (m : s.MarksTo t) (n : Nat) : s.MarksTo (t.bootAdvance n) := by
  unfold State.bootAdvance
  split <;> exact m

theorem State.MarksTo.serviceReturn (m : s.MarksTo t) : s.MarksTo t.serviceReturn := by
  rw [State.serviceReturn_frame]
  exact m

theorem State.MarksTo.detentOrReturn (m : s.MarksTo t) : s.MarksTo t.detentOrReturn := by
  unfold State.detentOrReturn
  split <;> exact m

theorem State.MarksTo.packetDone (m : s.MarksTo t) : s.MarksTo t.packetDone := by
  rw [State.packetDone_frame]
  exact m

theorem XferMove.marksTo {after : AfterXfer} (m : XferMove after s t) (he : s.emitted = []) : s.MarksTo t := by
  cases m with
  | busy w d hb => exact .kept (portsQuiet_of_nil he)
  | started w hb hk => exact .kept (by simp [portsQuiet, he])

theorem HookMove.marksTo (m : HookMove h s t) (hh : s.atHook = some h) (he : s.emitted = []) : s.MarksTo t := by
  cases m with
  | xfer o d after t hc hx => exact hx.marksTo (s := s.asked o d) he
  | collect t hc hx => exact hx.marksTo he
  | sendIn o d r hl hc hm =>
    obtain ⟨hk, hs⟩ := hookMay_sendIn_iff.mp hm
    exact .sent r.toList (hk.imp (hh.trans <| congrArg some ·) (hh.trans <| congrArg some ·)) hs (by simp [he])
  | armOut o d hc hm =>
    obtain ⟨rfl, ha⟩ := hookMay_armOut_iff.mp hm
    exact .armed hh ha (by simp [he])
  | _ => exact .kept (portsQuiet_of_nil he)

/-- A request drives `epout_arm` outside the hooks only, and no interrupt-IN transfer (R221, R240). -/
theorem RequestMove.marksTo (m : RequestMove s t) (hh : s.atHook = none) (he : s.emitted = []) : s.MarksTo t := by
  cases m with
  | acknowledged => exact .kept (portsQuiet_of_nil he)
  | configured => exact .kept ⟨by simp [he], fun _ => hh⟩
  | stalled c hc => exact .kept (by simp [portsQuiet, he])
  | replied id l =>
    by_cases hl : replyLen (descRom s.cfg id).length l = 0
    · rw [replyFrom_empty hl]
      exact .kept (portsQuiet_of_nil he)
    · rw [replyFrom_data hl]
      exact .kept (portsQuiet_of_nil he)

theorem execRotAccumulate_marksTo {p : I32} (ha : execRotAccumulate p s = .next t) (he : s.emitted = []) :
    s.MarksTo t := by
  rcases execRotAccumulate_cases ha with ⟨acc, q, -, -, rfl⟩ | rfl <;> exact .kept (portsQuiet_of_nil he)

/-- The hook of a running service (R304, R306). -/
theorem State.atHook_run {k : Service} (hq : s.seq_state = .run k)
    (hk : (k = .epOut ∧ h = .epOut) ∨ (k = .key ∧ h = .key) ∨ (k = .rotary ∧ h = .detent ∧ s.rot_step = .detent)) :
    s.atHook = some h := by
  rcases hk with ⟨rfl, rfl⟩ | ⟨rfl, rfl⟩ | ⟨rfl, rfl, hr⟩
  · rw [State.atHook, hq]
  · rw [State.atHook, hq]
  · exact State.atHook_detent hq hr

theorem State.atHook_boot {n : Nat} (hq : s.seq_state = .boot n) : s.atHook = some .boot := by rw [State.atHook, hq]

theorem State.atHook_poll {k : Service} (hq : s.seq_state = .poll k) : s.atHook = none := by rw [State.atHook, hq]

theorem State.atHook_setup (hq : s.seq_state = .run .setup) : s.atHook = none := by rw [State.atHook, hq]

theorem SqMove.marksTo (m : SqMove s t) (he : s.emitted = []) : s.MarksTo t := by
  cases m with
  | boot n t hq hm => exact (hm.marksTo (State.atHook_boot hq) he).bootAdvance n
  | pollHit k hq hf => exact .cleared (State.atHook_poll hq) he
  | link hq => exact .kept (by simp [portsQuiet, he])
  | dispatch t hq hc hx => exact ((exec_request_move hx).marksTo (State.atHook_setup hq) he).serviceReturn
  | stage id bytes hl hq hc hp hi hr => exact .kept (by simp [portsQuiet, he])
  | dataDone hq hc hp hf =>
    exact State.MarksTo.packetDone (t := s.clearFlag .ep0DataDone) (.kept (portsQuiet_of_nil he))
  | status hq hc => exact .kept (by simp [portsQuiet, he])
  | hook k h t hq hk hm => exact hm.marksTo (State.atHook_run hq hk) he
  | accumulate t hq hr ha => exact (execRotAccumulate_marksTo ha he).detentOrReturn
  | _ => exact .kept (portsQuiet_of_nil he)

/-- An event writes no mark and drives no port (R49). -/
theorem envStep_marksTo {e : EnvEvent} (hx : envStep e s = .next t) (he : s.emitted = []) : s.MarksTo t := by
  have hk : s.MarksTo { envData e s with agent := .env } := by
    simp only [State.MarksTo, envData_emitted, envData_hook_armed, envData_hook_sent]
    exact .kept (portsQuiet_of_nil he)
  obtain ⟨-, ⟨f, -, rfl⟩ | ⟨d, -, hp⟩ | ⟨-, rfl⟩⟩ := envStep_cases hx
  · exact hk
  · rcases execRotPulse_cases hp with ht | rfl
    · rw [ht]
      exact hk
    · exact hk
  · exact hk

/-- A step is a reset, which clears the marks and drives no port (R340), or does one of these things to the marks. -/
theorem step_marksTo (hs : step s = .next t) :
    ((∃ u chip rest, s.schedule = .reset u chip :: rest) ∧ t.hook_armed = false ∧ t.hook_sent = false ∧ t.emitted = []) ∨
      s.MarksTo t := by
  rcases step_moves hs with ⟨u, chip, rest, hr, rfl⟩ | ⟨e, rest, -, he⟩ | ⟨a, rest, -, -, ⟨-, rfl⟩ | hm⟩ |
    ⟨rest, -, -, rfl⟩ | ⟨tn, rest, r, -, -, -, -, rfl⟩
  · exact .inl ⟨⟨u, chip, rest, hr⟩, rfl, rfl, rfl⟩
  · exact .inr (envStep_marksTo (s := s.passed rest) he rfl)
  · exact .inr (State.MarksTo.serviceReturn (t := { s.sqTurn rest with ctl_state := .idle, ctl_phase := .stage })
      (.kept (portsQuiet_of_nil rfl)))
  · exact .inr (hm.marksTo (s := s.sqTurn rest) rfl)
  · exact .inr (.kept (portsQuiet_of_nil rfl))
  · exact .inr (.kept (portsQuiet_of_nil rfl))

section
variable {k : Option Hook} {es : List Emit} {armed sent armed' sent' : Bool}

/-- A mark of `ARM_OUT` that is 1 was 1, or its port is driven in HOOK_EPOUT. -/
theorem MarkStep.armed_of (m : MarkStep k es armed sent armed' sent') (ha : armed' = true) :
    armed = true ∨ (k = some .epOut ∧ es = [.epOutArm]) := by
  cases m with
  | kept hq => exact .inl ha
  | cleared hk he => cases ha
  | armed hk _ he => exact .inr ⟨hk, he⟩
  | sent b hk hs he => exact .inl ha

/-- A mark of `SEND_IN` that is 1 was 1, or its port is driven in a hook that sends. -/
theorem MarkStep.sent_of (m : MarkStep k es armed sent armed' sent') (hs : sent' = true) :
    sent = true ∨ ((k = some .key ∨ k = some .detent) ∧ ∃ b, es = [.epInStart .epIn b]) := by
  cases m with
  | kept hq => exact .inl hs
  | cleared hk he => cases hs
  | armed hk ha he => exact .inl hs
  | sent b hk _ he => exact .inr ⟨hk, b, he⟩

/-- In a hook, `epout_arm` is driven only with its mark 0, and sets it. -/
theorem MarkStep.of_epOutArm (m : MarkStep k es armed sent armed' sent') (hk : k = some h) (hp : .epOutArm ∈ es) :
    armed = false ∧ armed' = true := by
  cases m with
  | kept hq => cases hk.symm.trans (hq.2 hp)
  | cleared _ he => simp [he] at hp
  | armed _ ha he => exact ⟨ha, rfl⟩
  | sent b _ hs he => simp [he] at hp

/-- An interrupt-IN transfer is started only with its mark 0, and sets it. -/
theorem MarkStep.of_epInStart {b : List Byte} (m : MarkStep k es armed sent armed' sent')
    (hp : .epInStart .epIn b ∈ es) : sent = false ∧ sent' = true := by
  cases m with
  | kept hq => exact absurd hp (hq.1 b)
  | cleared _ he => simp [he] at hp
  | armed _ ha he => simp [he] at hp
  | sent b _ hs he => exact ⟨hs, rfl⟩

/-- In a hook no mark is cleared. -/
theorem MarkStep.of_hook (m : MarkStep k es armed sent armed' sent') (hk : k = some h) :
    (armed = true → armed' = true) ∧ (sent = true → sent' = true) := by
  cases m with
  | kept hq => exact ⟨id, id⟩
  | cleared hn he => cases hk.symm.trans hn
  | armed _ ha he => exact ⟨fun _ => rfl, id⟩
  | sent b _ hs he => exact ⟨id, fun _ => rfl⟩

end

/-! ### The end of a hook, and what is refused in one (R306) -/

/-- A hook's step leaves SQ where it stands, or the hook ends, having issued what it must. -/
theorem HookMove.ends (m : HookMove h s t) :
    t.seq_state = s.seq_state ∨ (hookMay h .done s = true ∧ t.seq_state = h.after) := by
  cases m with
  | done o d hc hm => exact .inr ⟨hm, rfl⟩
  | xfer o d after t hc hx => cases hx <;> exact .inl rfl
  | collect t hc hx => cases hx <;> exact .inl rfl
  | _ => exact .inl rfl

/-- A service's hook that SQ leaves has ended. -/
theorem step_hookEnds (hm : s.sqMoves rest) (hh : s.atHook = some h) (hb : h ≠ .boot) (hs : step s = .next t)
    (hq : t.seq_state ≠ s.seq_state) : hookMay h .done s = true ∧ t.seq_state = h.after := by
  rcases step_atHook hm hh hs with ⟨u, mv, rfl | ⟨n, hn, -⟩⟩ | rfl | ⟨r, rfl⟩
  · exact mv.ends.resolve_left hq
  · exact absurd hn hb
  · exact absurd rfl hq
  · exact absurd rfl hq

/-- An answer of the oracle that breaks the hook's contract is refused (assumption 10). -/
theorem step_hookContract {a : HookStep} {orest : List HookStep} (hm : s.sqMoves rest) (hh : s.atHook = some h)
    (hc : s.cmd = .idle) (ho : s.oracle = a :: orest) (ha : hookMay h a s = false) :
    step s = .refused (.hookContract h) := by
  have hf : hookFetch h (s.sqTurn rest) = .refused (.hookContract h) := by
    rw [hookFetch, nextHookStep_cons (s := s.sqTurn rest) ho]
    exact if_neg (Bool.eq_false_iff.mp ha)
  have hs : hookStep h (s.sqTurn rest) = some (.refused (.hookContract h)) := by
    rw [hookStep_idle (s := s.sqTurn rest) hc, hf]
  rw [step_of_sqMain hm (sqMain_of_hookStep_refused (s := s.sqTurn rest) hh hs), State.settle_hookContract]

/-- Settles O50: the ends of the two hooks, the marks of every step, and the two refusals. -/
theorem hooksEndOnlyWhenDone : Obligations.HooksEndOnlyWhenDone := by
  refine ⟨fun s t rest hm hs => ⟨fun hq hne => ?_, fun hq hr hne => ?_⟩, fun s t hs => ?_,
    fun s rest h orest hm hh hc => ⟨fun c ho hf => ?_, fun ho hmust => ?_⟩⟩
  · obtain ⟨hd, ht⟩ := step_hookEnds hm (State.atHook_run hq (.inl ⟨rfl, rfl⟩)) (by decide) hs (hq ▸ hne)
    exact ⟨(hookMay_done_iff.mp hd).1 rfl, ht⟩
  · obtain ⟨hd, ht⟩ := step_hookEnds hm (State.atHook_detent hq hr) (by decide) hs (hq ▸ hne)
    exact ⟨(hookMay_done_iff.mp hd).2 rfl, ht⟩
  · rcases step_marksTo hs with ⟨⟨u, chip, rest, hr⟩, ha, hn, he⟩ | m
    · exact ⟨by simp [ha], by simp [hn], by simp [he], by simp [he], fun h hh hnr => absurd hr (hnr u chip rest)⟩
    · exact ⟨m.armed_of, m.sent_of, fun h hh => m.of_epOutArm hh, fun b => m.of_epInStart, fun h hh _ => m.of_hook hh⟩
  · exact step_hookContract hm hh hc ho (Bool.eq_false_iff.mpr fun hmay => hookMay_cmd_iff.mp hmay hf)
  · refine step_hookContract hm hh hc ho (Bool.eq_false_iff.mpr fun hmay => ?_)
    obtain ⟨harmed, hsent⟩ := hookMay_done_iff.mp hmay
    rcases hmust with ⟨rfl, ha⟩ | ⟨rfl, hn⟩
    · exact absurd (harmed rfl) (by simp [ha])
    · exact absurd (hsent rfl) (by simp [hn])

/-! ### The polls, SLEEP and service 1 (R304, R305) -/

/-- A poll of SQ consumes its flag, and enters the service or goes on (R304, R307). -/
theorem pollStep_sq {k : Service} (ha : s.agent = .sq) :
    pollStep k s = .next (if s.flag k.flag
      then State.enterService k { s.clearFlag k.flag with ret_flag := s.flag k.flag }
      else { s.clearFlag k.flag with ret_flag := s.flag k.flag, seq_state := k.after }) := by
  rw [pollStep, exec_pollInstr, testAndClear_sq ha, afterNext_next]

theorem step_poll {k : Service} (hm : s.sqMoves rest) (hq : s.seq_state = .poll k) :
    step s = .next (if s.flag k.flag
      then State.enterService k { (s.sqTurn rest).clearFlag k.flag with ret_flag := s.flag k.flag }
      else { (s.sqTurn rest).clearFlag k.flag with ret_flag := s.flag k.flag, seq_state := k.after }) :=
  step_of_sqMain_next hm (by rw [sqMain_poll (s := s.sqTurn rest) hq, pollStep_sq rfl]; rfl)

/-- The flag a service polls and the state after a miss are those of the table of R304. -/
theorem Service.poll_row {k : Service} {f : Flag} {after : SeqState}
    (hmem : (k, f, after) ∈ [(Service.usbPower, Flag.usbPower, SeqState.poll .setup), (.setup, .setup, .poll .epOut),
      (.epOut, .epOut, .poll .key), (.key, .key, .poll .rotary), (.rotary, .rotReport, .sleep)]) :
    f = k.flag ∧ after = k.after := by
  cases k <;> simpa [Service.flag, Service.after] using hmem

/-- Settles O45: by whether the flag was 1. -/
theorem pollsInFixedOrder : Obligations.PollsInFixedOrder := by
  intro s rest k f after hm hq hmem
  obtain ⟨rfl, rfl⟩ := Service.poll_row hmem
  refine ⟨_, step_poll hm hq, ?_⟩
  have hother : ∀ g, g ≠ k.flag → (s.flags.put k.flag false).get g = s.flag g :=
    fun g hg => Flags.get_put_of_ne s.flags false hg
  have hown : (s.flags.put k.flag false).get k.flag = false := Flags.get_put_self ..
  cases hf : s.flag k.flag with
  | true => exact ⟨rfl, hown, hother, fun _ => ⟨rfl, rfl, rfl, rfl⟩, nofun, rfl⟩
  | false => exact ⟨rfl, hown, hother, nofun, fun _ => ⟨rfl, rfl, rfl, rfl⟩, rfl⟩

theorem State.woken_iff : s.woken = true ↔ s.flag .usbPower = true ∨ s.flag .setup = true ∨ s.flag .epOut = true ∨
    s.flag .key = true ∨ s.flag .rotReport = true := by
  simp [State.woken, or_assoc]

theorem sqMain_sleep (hq : s.seq_state = .sleep) :
    sqMain s = if s.woken then some (.next { s with seq_state := .poll .usbPower }) else none := by
  rw [sqMain, hq]

/-- SQ without a step, where it awaits no completion: the turn passes, and with none left the block stays as it is (R302,
assumption 19). -/
theorem step_quiescent (hm : s.sqMoves rest) (hn : sqMain (s.sqTurn rest) = none)
    (ha : (s.sqTurn rest).mayAbort = false) (hw : s.waitsFor = none) : step s = .next (s.passed rest) := by
  obtain ⟨hr, hs | ⟨hs, rfl⟩⟩ := hm
  · exact step_held hr hs (sqStep_held hn ha)
  · have hb : blocked (s.passed []) = .next (s.passed []) := by
      rw [blocked, show (s.passed []).waitsFor = none from hw]
    rw [step_nil hs, sqStep_held hn ha, Option.getD_none, hb, State.passed_attempt_of_none _ hr, State.settle_next]

/-- Settles O46: by whether SQ is woken. -/
theorem sleepWakesOnServiceFlags : Obligations.SleepWakesOnServiceFlags := by
  intro s rest hm hq
  have hmain := sqMain_sleep (s := s.sqTurn rest) hq
  constructor
  · intro hflag
    exact step_of_sqMain_next hm (hmain.trans (if_pos (State.woken_iff.mpr hflag)))
  · intro h1 h2 h3 h4 h5
    have hidle : ¬ (s.sqTurn rest).woken = true := by simp [State.woken, h1, h2, h3, h4, h5]
    refine step_quiescent hm (hmain.trans (if_neg hidle)) ?_ ?_
    · simp [State.mayAbort, hq]
    · rw [State.waitsFor, hq]

/-- Settles O48: the step of service 1 starts from no port driven. -/
theorem powerServiceStartsTheLink : Obligations.PowerServiceStartsTheLink := by
  intro s rest hm hq
  exact step_of_sqMain_next hm (sqMain_run (s := s.sqTurn rest) hq)

end Sys2Proof.Machine
end

section
/-! PROOFS. Boot's steps between two commands (70_reset_and_hazards.md R342), and what a reset leaves (R340, R42, R43). -/

namespace Sys2Proof.Machine

variable {s : State} {rest : List Turn} {n : Nat}

/-! ### Boot (R342) -/

/-- Between two commands of boot, SQ's step fetches the next one, after which BOOT(i) may move on. -/
theorem step_bootFetch (hm : s.sqMoves rest) (hq : s.seq_state = .boot n) (hc : s.cmd = .idle) :
    step s = (s.passed rest).settle (afterNext (hookFetch .boot (s.sqTurn rest)) (State.bootAdvance n)) := by
  refine step_of_sqMain hm ?_
  rw [sqMain_boot (s := s.sqTurn rest) hq, bootStep, hookStep_idle (s := s.sqTurn rest) hc, Option.map_some]

/-- The commands boot may issue leave no mark: it issues only transactions (R306). -/
theorem noteCmd_of_boot {c : HookCmd} (hf : ¬ forbiddenCommand .boot c s) (t : State) : t.noteCmd c = t := by
  cases c with
  | xfer | message => rfl
  | sendIn r => exact absurd (.inr (.inl ⟨⟨r, rfl⟩, .inl rfl⟩)) hf
  | armOut => exact absurd (.inl ⟨rfl, nofun⟩) hf

/-- A step that leaves BOOT(i), as the end of boot does, is not followed by BOOT(i+1). -/
theorem State.bootAdvance_of_ne (h : s.seq_state ≠ .boot n) : s.bootAdvance n = s := if_neg fun hn => h hn.1

/-- Settles O33: the fetch of boot's command, which leaves no mark. -/
theorem bootPerformsTheDecodedMessage : Obligations.BootPerformsTheDecodedMessage := by
  intro s rest n c orest i hm hq hc ho hf hi
  obtain rfl := commandPerforms_iff.mp hi
  rw [step_bootFetch hm hq hc, hookFetch_cmd (s := s.sqTurn rest) ho hf, noteCmd_of_boot hf]
  rfl

/-- Settles O51: the fetch of the hook's end, which leaves BOOT(i). -/
theorem bootEndsInSleep : Obligations.BootEndsInSleep := by
  intro s rest orest n hm hq hc ho
  rw [step_bootFetch hm hq hc, hookFetch_done (s := s.sqTurn rest) ho rfl, afterNext_next,
    State.bootAdvance_of_ne, State.settle_next]
  · rfl
  · exact nofun

/-! ### Reset (R340) -/

theorem State.hardReset_flag (s : State) (u : Unspecified) (chip : Bool) (f : Flag) :
    (s.hardReset u chip).flag f = false := by
  cases f <;> rfl

/-- What a reset leaves of the oracle's list: all of it where SQ ran no hook, and what stands behind the end of the abandoned
hook's sequence where it ran one (assumption 13). -/
theorem State.oracleAfterReset_cases (s : State) :
    (s.atHook = none → s.oracleAfterReset = s.oracle) ∧
    (∀ (h : Hook) (cs : List HookCmd) (later : List HookStep), s.atHook = some h →
      (s.oracle = cs.map .cmd ++ .done :: later → s.oracleAfterReset = later) ∧
      (s.oracle = cs.map .cmd → s.oracleAfterReset = [])) := by
  refine ⟨State.oracleAfterReset_of_none, fun h cs later hh => ?_⟩
  rw [State.oracleAfterReset_of_hook hh]
  exact ⟨fun ho => ho ▸ answersAfterHook_done cs later, fun ho => ho ▸ answersAfterHook_open cs⟩

/-- Settles O54: the reset's next state, register by register; the oracle's list apart, each is its value in `hardReset`. -/
theorem resetSetsEveryRegister : Obligations.ResetSetsEveryRegister := by
  intro s u chip rest hs
  obtain ⟨hnone, hhook⟩ := (s.passed rest).oracleAfterReset_cases
  refine ⟨(s.passed rest).hardReset u chip, step_reset hs, State.hardReset_flag _ u chip, rfl, rfl, rfl, rfl, rfl, rfl, rfl,
    rfl, rfl, rfl, rfl, rfl, rfl, rfl, rfl, rfl, rfl, rfl, rfl, rfl, rfl, rfl, rfl, rfl, hnone, hhook, rfl, rfl, rfl, rfl,
    rfl, rfl, rfl, rfl⟩

end Sys2Proof.Machine
end
